-- ==== Sys2Proof/Word.lean ====
section
/-! DEFINITION. The words of the FG-430 and their plainest arithmetic: bytes, 16-bit words, the parts of a word, and
the unit of the microsecond time base. -/

namespace Sys2Proof

/-- One byte of a frame or of a management record. -/
abbrev Byte := BitVec 8

/-- A 16-bit quantity: a cue value, a step tag, a record field (R1, R135). -/
abbrev Word := BitVec 16

/-- An instant or a span of the microsecond time base, counted in units of 200 ns: the shortest line symbol (R98) is
one unit, and one microsecond is five. -/
abbrev Time := Nat

/-- The number of time units in one microsecond. -/
def unitsPerMicrosecond : Nat := 5

/-- The high byte of a word. -/
def Word.hi (w : Word) : Byte := w.extractLsb' 8 8

/-- The low byte of a word. -/
def Word.lo (w : Word) : Byte := w.extractLsb' 0 8

end Sys2Proof
end

