-- ==== Sys2Proof/Syntax.lean ====
section
/-! DEFINITION. The commands of the FG-430: one constructor of `Instr` for each row of spec/opcode_table.json, with
the operands the rules give it, and the small types those operands need. -/

namespace Sys2Proof

/-- The four cue links (00_scope.md, "The four cue links"). -/
inductive LinkId where
  | d | v | a | c
deriving DecidableEq, Repr

/-- The link's number inside records, 0 to 3. -/
def LinkId.number : LinkId → Nat
  | .d => 0
  | .v => 1
  | .a => 2
  | .c => 3

/-- The link of a number; numbers above 3 name no link (R139). -/
def LinkId.ofNumber : Nat → Option LinkId
  | 0 => some .d
  | 1 => some .v
  | 2 => some .a
  | 3 => some .c
  | _ => none

/-- The four links in the order of their numbers. -/
def LinkId.all : List LinkId := [.d, .v, .a, .c]

/-- A cue index, 0 to 255. -/
abbrev CueId := Fin 256

/-- A route id, 0 to 383. -/
abbrev RouteId := Fin 384

/-- The parts of one millisecond tick: every cue's ageing, the batch timer, the freeze window timer, and the port of
each link (R7 to R10, R36, R108, R122, R125). -/
inductive TickPart where
  | cues
  | batchTimer
  | windowTimer
  | port (l : LinkId)
deriving DecidableEq, Repr

/-- What a receiver finds on its line (R118, R122): a data symbol, a frame-start, idle fill, an invalid ten-bit
pattern, or a break in the idle fill that brings no symbol. -/
inductive LineSymbol where
  | data
  | frameStart
  | idleFill
  | invalid
  | fillBreak
deriving DecidableEq, Repr

/-- What ends a frame before it is complete (R118, R128): one of the three symbols that are not data, or a length
byte above the maximum payload of the frame's kind. -/
inductive EarlyEnd where
  | frameStart
  | idleFill
  | invalid
  | excessLength
deriving DecidableEq, Repr

/-- The commands, one constructor for each row of spec/opcode_table.json.

A request row (`arm` to `unknownRequest`, `shortRequestPayload`, `linkBadAction`) is the arrival on Link D of a
REQUEST frame that passes its check and carries that request: `seq` is the frame's sequence byte, `tag` the request
tag, `args` the argument bytes after the request code (R133, R137). -/
inductive Instr where
  /-- Power-on, or the power-on reset input, with the strap pins RATE1 and RATE0 as they stand (R119, R153). -/
  | powerOnReset (rate1 rate0 : Bool)
  /-- One tick of the millisecond timer (R7). `order` is the order in which the sender lets the tick's parts be taken;
  parts it leaves out follow in a fixed order. -/
  | millisecondTick (order : List TickPart)
  /-- The first test of R8, at one cue. -/
  | freshLimitExpiry (cue : CueId)
  /-- The second test of R8, at one cue, with the treatment of R9. -/
  | holdLimitExpiry (cue : CueId)
  /-- Expiry of the batch window (R36). -/
  | stepTimeout
  /-- Expiry of the freeze window (R108). -/
  | freezeLate
  /-- Expiry of the resume window (R108). -/
  | resumeLate
  /-- The start timer of a link reaches its limit (R122). -/
  | startTimeout (link : LinkId)
  /-- The tick that ends a whole interval of unbroken idle fill on a STARTING link (R122). -/
  | idleFillStartUp (link : LinkId)
  /-- The silence count of a link reaches 2 (R125). -/
  | signalLost (link : LinkId)
  /-- The tick that finds valid symbols back on a Link D that is DOWN (R125). -/
  | signalReturnLinkD
  /-- Expiry of a link's slot timer (R89). -/
  | slotTimerExpiry (link : LinkId)
  /-- A rising edge on SYNC_V, SYNC_A or SYNC_C (R90). -/
  | syncEdge (link : LinkId)
  /-- The end of a frame's transmission time (R98). -/
  | transmitComplete (link : LinkId)
  /-- A frame arrives at its check byte: header, payload and check byte (R128). -/
  | frameReceived (link : LinkId) (bytes : List Byte)
  /-- ARM (R140). -/
  | arm (seq tag : Byte) (args : List Byte)
  /-- DISARM (R140). -/
  | disarm (seq tag : Byte) (args : List Byte)
  /-- STATUS (R154). -/
  | status (seq tag : Byte) (args : List Byte)
  /-- CURSOR (R141). -/
  | cursor (seq tag : Byte) (args : List Byte)
  /-- PUT (R143). -/
  | put (seq tag : Byte) (args : List Byte)
  /-- GET (R144). -/
  | get (seq tag : Byte) (args : List Byte)
  /-- FILL (R145). -/
  | fill (seq tag : Byte) (args : List Byte)
  /-- The 2 µs mark of the FILL in flight (R146). -/
  | fillWrite
  /-- OVERRIDE (R15). -/
  | override (seq tag : Byte) (args : List Byte)
  /-- RELEASE (R16). -/
  | release (seq tag : Byte) (args : List Byte)
  /-- FREEZE (R106). -/
  | freeze (seq tag : Byte) (args : List Byte)
  /-- RESUME (R107). -/
  | resume (seq tag : Byte) (args : List Byte)
  /-- LINK with the START action (R121): link number, then any further bytes. -/
  | linkStart (seq tag linkNumber : Byte) (extra : List Byte)
  /-- LINK with the STOP action (R121). -/
  | linkStop (seq tag linkNumber : Byte) (extra : List Byte)
  /-- LINK with the RESET action (R126). -/
  | linkReset (seq tag linkNumber : Byte) (extra : List Byte)
  /-- CLEAR (R155). -/
  | clear (seq tag : Byte) (args : List Byte)
  /-- PROTECT (R149). -/
  | protect (seq tag : Byte) (args : List Byte)
  /-- LOCK (R150). -/
  | lock (seq tag : Byte) (args : List Byte)
  /-- RESET_ARM (R151). -/
  | resetArm (seq tag : Byte) (args : List Byte)
  /-- RESET (R151). -/
  | reset (seq tag : Byte) (args : List Byte)
  /-- A request whose code names no request (R137). -/
  | unknownRequest (seq tag code : Byte) (args : List Byte)
  /-- One symbol, or a break of the idle fill, at a receiver (R118, R122, R125). -/
  | lineSymbolReceived (link : LinkId) (symbol : LineSymbol)
  /-- A frame in reception ends before its check byte (R118, R128). -/
  | frameEndedEarly (link : LinkId) (cause : EarlyEnd)
  /-- A REQUEST frame whose payload is empty, or holds a tag alone (R137). -/
  | shortRequestPayload (seq : Byte) (tag : Option Byte)
  /-- LINK with an action code that names no action (R139). -/
  | linkBadAction (seq tag linkNumber action : Byte) (extra : List Byte)
deriving DecidableEq, Repr

end Sys2Proof
end

