-- ==== Sys2Proof/Config.lean ====
section
/-! DEFINITION. The fixed numbers of the FG-430 that its manual states: sizes, windows and leads. The manual leaves no
value free, so there is no opaque constant here. -/

namespace Sys2Proof.Config

/-- The number of cue entries (chapter 1). -/
def cueCount : Nat := 256

/-- The number of route records (chapter 3). -/
def routeCount : Nat := 384

/-- The places of one event queue (R72). -/
def queueCapacity : Nat := 16

/-- The event lead, 20 µs (R71). -/
def eventLead : Time := 20 * unitsPerMicrosecond

/-- The interval of the millisecond timer. -/
def millisecond : Time := 1000 * unitsPerMicrosecond

/-- The pacing of FILL, 2 µs a record (R146). -/
def fillPace : Time := 2 * unitsPerMicrosecond

/-- The start timer's limit in ticks (R122). -/
def startLimit : Nat := 50

/-- The silence count at which the signal is lost (R125). -/
def silenceLimit : Nat := 2

/-- The value at which an age stays (R7). -/
def ageLimit : Nat := 65535

/-- The largest data part of a REPLY (R133). -/
def replyDataBytes : Nat := 48

/-- The gap after a frame in a slot, 4 µs (R100). -/
def slotGap : Time := 4 * unitsPerMicrosecond

/-- The least nonzero slot length in microseconds (R100). -/
def slotFloor : Nat := 20

end Sys2Proof.Config
end

