-- ==== Sys2Proof/Machine/State.lean ====
section
/-! DEFINITION. The state of the FG-430 as plain data, its reset, and the two ways a command could stop (none of the
model's commands does). -/

namespace Sys2Proof.Machine

/-! ### The cue table (chapter 1) -/

/-- How a cue's sixteen bits are read (R1). -/
inductive CueClass where
  | analog
  | switch
deriving DecidableEq, Repr

/-- Where a cue stands between fresh and rest (chapter 1.1). -/
inductive CueState where
  | empty
  | live
  | held
  | fading
  | rested
deriving DecidableEq, Repr

/-- The six configuration fields of a cue entry (R17). An owner of `none` is NONE (R2). -/
structure CueConfig where
  cls : CueClass
  owner : Option LinkId
  neutral : Word
  freshLimit : Word
  holdLimit : Word
  fadeStep : Word
deriving DecidableEq, Repr

/-- A cue entry: its configuration and its state (chapter 1.1). -/
structure CueEntry where
  config : CueConfig
  value : Word
  previous : Word
  pending : Option Word
  override : Option Word
  stepTag : Word
  age : Nat
  state : CueState
deriving DecidableEq, Repr

/-- The cue entry after power-on reset and part reset (R21). -/
def CueEntry.afterReset : CueEntry where
  config := { cls := .analog, owner := none, neutral := 0, freshLimit := 20, holdLimit := 100, fadeStep := 64 }
  value := 0
  previous := 0
  pending := none
  override := none
  stepTag := 0
  age := 0
  state := .empty

/-! ### The batch unit (chapter 2) -/

/-- The batch unit (chapter 2.3). `timer` is `none` while the batch timer is stopped; the batch window stands in the
GLOBAL record. -/
structure BatchUnit where
  isOpen : Bool
  openTag : Word
  timer : Option Nat
  currentTag : Word
deriving DecidableEq, Repr

/-- The batch unit after power-on reset and part reset (R26). -/
def BatchUnit.afterReset : BatchUnit where
  isOpen := false
  openTag := 0
  timer := none
  currentTag := 0

/-! ### The route table (chapter 3) -/

/-- What a route does (R40). -/
inductive RouteKind where
  | off
  | field
  | event
deriving DecidableEq, Repr

/-- How a route combines its sources (R48). -/
inductive Combine where
  | pass
  | sum
  | diff
  | peak
deriving DecidableEq, Repr

/-- Which threshold crossing fires (R67, R68). -/
inductive Direction where
  | rising
  | falling
deriving DecidableEq, Repr

/-- A route record, every field as stored (R46, R135). The bytes of an absent source B or substitute are kept and read
only while their presence bit is set. -/
structure RouteRecord where
  kind : RouteKind
  combine : Combine
  substitutePresent : Bool
  direction : Direction
  receiverAddress : Bool
  sourceBPresent : Bool
  link : LinkId
  template : BitVec 2
  shift : BitVec 4
  position : Byte
  sourceA : Byte
  sourceB : Byte
  eventClass : Byte
  substitute : Word
  gain : Word
  deadband : Word
  bias : Word
  lo : Word
  hi : Word
  slew : Word
  freezeSlew : Word
  neutral : Word
  careMask : Word
  threshold : Word
  hysteresis : Word
deriving DecidableEq, Repr

/-- The route record after power-on reset and part reset (R64). -/
def RouteRecord.afterReset : RouteRecord where
  kind := .off
  combine := .pass
  substitutePresent := false
  direction := .rising
  receiverAddress := false
  sourceBPresent := false
  link := .d
  template := 0
  shift := 0
  position := 0
  sourceA := 0
  sourceB := 0
  eventClass := 0
  substitute := 0
  gain := 0
  deadband := 0
  bias := 0
  lo := 0x8000
  hi := 0x7FFF
  slew := 0
  freezeSlew := 0
  neutral := 0
  careMask := 0
  threshold := 0
  hysteresis := 0

/-- A route: its record and the route state the engine holds beside it (R41). -/
structure Route where
  record : RouteRecord
  held : Word
  peak : Option Word
  armed : Bool
  settled : Bool
  converged : Bool
deriving DecidableEq, Repr

/-- The route after power-on reset and part reset (R64, R110, R111). -/
def Route.afterReset : Route where
  record := .afterReset
  held := 0
  peak := none
  armed := true
  settled := false
  converged := false

/-! ### Event queues (chapter 4) -/

/-- A CUE_EVENT record (R71). -/
structure CueEvent where
  route : RouteId
  cue : Byte
  eventClass : Byte
  value : Word
  stepTag : Word
  receiverAddress : Bool
  eligible : Time
deriving DecidableEq, Repr

/-- A REPLY record (chapter 4.2). -/
structure Reply where
  tag : Byte
  code : Byte
  result : Byte
  count : Byte
  data : List Byte
  eligible : Time
deriving DecidableEq, Repr

/-- A record of an event queue (chapter 4.2). -/
inductive QueueRecord where
  | cueEvent (e : CueEvent)
  | reply (r : Reply)
deriving DecidableEq, Repr

/-! ### Templates and slot plans (chapter 5) -/

/-- A template record (R83, R136). The most significant bit of `wide` is the width of position 0: set for 16 bits. -/
structure Template where
  receiverAddress : Bool
  fieldCount : Byte
  split : Option Byte
  tailAddress : Bool
  wide : BitVec 24
deriving DecidableEq, Repr

/-- The template record after power-on reset and part reset (R85). -/
def Template.afterReset : Template where
  receiverAddress := false
  fieldCount := 0
  split := none
  tailAddress := false
  wide := 0

/-- The seven slot rules (chapter 5.2). -/
inductive SlotRule where
  | cyclic
  | eventOrCyclic
  | eventOrIdle
  | head
  | tail
  | tailOrEvent
  | idle
deriving DecidableEq, Repr

/-- A slot entry: rule, template number, length in microseconds (chapter 5.2). -/
structure Slot where
  rule : SlotRule
  template : BitVec 2
  length : Word
deriving DecidableEq, Repr

/-- A link's slot plan of six entries (chapter 5.2). -/
abbrev Plan := Vector Slot 6

/-- The plan of a board link after power-on reset and part reset (R88). -/
def Plan.boardAfterReset : Plan := Vector.replicate 6 { rule := .cyclic, template := 0, length := 0 }

/-- The plan of Link D after power-on reset and part reset (R88). -/
def Plan.linkDAfterReset : Plan := Plan.boardAfterReset.set 0 { rule := .eventOrCyclic, template := 0, length := 500 }

/-- The split snapshot (R94). -/
structure Snapshot where
  template : BitVec 2
  payload : List Byte
  receiverAddress : Bool
  stepTag : Word
deriving DecidableEq, Repr

/-- The frame on the line: its bytes from the kind code to the check byte, and the instant at which its transmission
is complete (R98). -/
structure Transmission where
  bytes : List Byte
  complete : Time
deriving DecidableEq, Repr

/-! ### Links (chapter 7) -/

/-- The line rates (R118). -/
inductive LineRate where
  | mbit12
  | mbit25
  | mbit50
deriving DecidableEq, Repr

/-- The byte orders of a link (R54). -/
inductive ByteOrder where
  | big
  | little
deriving DecidableEq, Repr

/-- The triggers of a link's scheduler (R89, R90). -/
inductive Trigger where
  | internal
  | external
deriving DecidableEq, Repr

/-- The link settings record (R120). -/
structure LinkSettings where
  rate : LineRate
  order : ByteOrder
  trigger : Trigger
  haltOnCheck : Bool
  evMax : Nat
  almostFull : Nat
deriving DecidableEq, Repr

/-- The link settings record after power-on reset and part reset (R120). -/
def LinkSettings.afterReset (rate : LineRate) : LinkSettings where
  rate := rate
  order := .big
  trigger := .internal
  haltOnCheck := false
  evMax := 1
  almostFull := 4

/-- The five states of a link port (chapter 7.3). -/
inductive LinkState where
  | off
  | starting
  | running
  | halted
  | down
deriving DecidableEq, Repr

/-- The nine sticky flags of a link (R134). -/
structure LinkFlags where
  checkErr : Bool
  seqGap : Bool
  ownerMismatch : Bool
  wrongKind : Bool
  slotOverrun : Bool
  tailOrphan : Bool
  eventDrop : Bool
  startTimeout : Bool
  signalLost : Bool
deriving DecidableEq, Repr

/-- Every flag of a link clear. -/
def LinkFlags.clear : LinkFlags where
  checkErr := false
  seqGap := false
  ownerMismatch := false
  wrongKind := false
  slotOverrun := false
  tailOrphan := false
  eventDrop := false
  startTimeout := false
  signalLost := false

/-- How the idle fill stands at the receiver of a STARTING link, the port's memory by which R122 tells a whole interval of
unbroken fill (log entry 5): no fill stands; fill has begun since the last tick; fill stood at the last tick and has not
broken since. -/
inductive FillRun where
  | absent
  | begun
  | whole
deriving DecidableEq, Repr

/-- One link: its port, its scheduler, its event queue and its tables.

`heard` is the port's memory of whether a valid symbol has come since the last tick (R122, R125), and `fill` that of the
idle fill while the link is STARTING (R122). `walk` is `none` at
start; `slotTimer` is `none` while stopped and else the instant of its expiry; `line` is the frame on the line, so the
transmitting mark is set exactly while it is present. -/
structure Port where
  state : LinkState
  receiveSeq : Option Byte
  transmitSeq : Byte
  startTimer : Nat
  silence : Nat
  idleRun : Bool
  fill : FillRun
  heard : Bool
  flags : LinkFlags
  settings : LinkSettings
  plan : Plan
  templates : Vector Template 4
  walk : Option (Fin 6)
  slotTimer : Option Time
  eventCount : Nat
  snapshot : Option Snapshot
  line : Option Transmission
  queue : List QueueRecord
deriving DecidableEq, Repr

/-- A link after power-on reset and part reset, with the state, rate and plan that R88, R119 and R127 give it. -/
def Port.afterReset (state : LinkState) (rate : LineRate) (plan : Plan) : Port where
  state := state
  receiveSeq := none
  transmitSeq := 0
  startTimer := 0
  silence := 0
  idleRun := false
  fill := .absent
  heard := false
  flags := .clear
  settings := .afterReset rate
  plan := plan
  templates := Vector.replicate 4 .afterReset
  walk := none
  slotTimer := none
  eventCount := 0
  snapshot := none
  line := none
  queue := []

/-- What the transmitter of a link sends (R118): nothing on a quiet line, idle fill, or a frame, which one frame-start
symbol precedes. -/
inductive TransmitterOutput where
  | quiet
  | idleFill
  | frame (bytes : List Byte)
deriving DecidableEq, Repr

/-- One thing for each of the four links. -/
structure PerLink (α : Type) where
  d : α
  v : α
  a : α
  c : α
deriving DecidableEq, Repr

/-- The thing of a link. -/
def PerLink.get {α : Type} (p : PerLink α) : LinkId → α
  | .d => p.d
  | .v => p.v
  | .a => p.a
  | .c => p.c

/-- Replace the thing of a link. -/
def PerLink.set {α : Type} (p : PerLink α) (l : LinkId) (x : α) : PerLink α :=
  match l with
  | .d => { p with d := x }
  | .v => { p with v := x }
  | .a => { p with a := x }
  | .c => { p with c := x }

/-! ### The freeze controller (chapter 6) -/

/-- The freeze states (chapter 6.1). -/
inductive FreezeState where
  | run
  | freezing
  | frozen
  | resuming
deriving DecidableEq, Repr

/-- The freeze controller: its state and its window timer, `none` while stopped (R105). -/
structure FreezeControl where
  state : FreezeState
  timer : Option Nat
deriving DecidableEq, Repr

/-- The freeze controller after power-on reset and part reset (R105). -/
def FreezeControl.afterReset : FreezeControl where
  state := .run
  timer := none

/-- The GLOBAL record: batch window, freeze window and resume window in ms (R136). -/
structure GlobalSettings where
  batchWindow : Word
  freezeWindow : Word
  resumeWindow : Word
deriving DecidableEq, Repr

/-- The GLOBAL record after power-on reset and part reset (R136). -/
def GlobalSettings.afterReset : GlobalSettings where
  batchWindow := 10
  freezeWindow := 3000
  resumeWindow := 3000

/-- The seven global sticky flags (R132, R134). -/
structure GlobalFlags where
  stepTorn : Bool
  stepTimeout : Bool
  freezeLate : Bool
  resumeLate : Bool
  replyLost : Bool
  partialDiscarded : Bool
  clipped : Bool
deriving DecidableEq, Repr

/-- Every global flag clear. -/
def GlobalFlags.clear : GlobalFlags where
  stepTorn := false
  stepTimeout := false
  freezeLate := false
  resumeLate := false
  replyLost := false
  partialDiscarded := false
  clipped := false

/-! ### The management unit (chapters 8 and 9) -/

/-- The six tables (R133). -/
inductive TableId where
  | cue
  | route
  | template
  | plan
  | link
  | global
deriving DecidableEq, Repr

/-- The cursor mode (R141). -/
inductive CursorMode where
  | read
  | write
deriving DecidableEq, Repr

/-- The side of the protected range (R149). -/
inductive Side where
  | low
  | high
deriving DecidableEq, Repr

/-- The progress of the FILL in flight (R145, R146): the tag its reply will carry, its table, the last index of its
run, its record, the records it has written and the instant of its next write. The next index stands in
`Management.fillNext`, as it outlives the run. -/
structure FillJob where
  tag : Byte
  table : TableId
  last : Nat
  record : List Byte
  written : Nat
  due : Time
deriving DecidableEq, Repr

/-- The management unit (chapter 8, R149 to R151). Busy is the presence of `fill`. -/
structure Management where
  armLatch : Bool
  cursorTable : TableId
  cursorIndex : Nat
  cursorMode : CursorMode
  partialRecord : List Byte
  fill : Option FillJob
  fillNext : Nat
  resetArm : Bool
  boundary : Nat
  side : Side
  limitLock : Bool
deriving DecidableEq, Repr

/-- The management unit after power-on reset and part reset (R152, R153). Of the FILL progress the next index alone is
held, at 0; the rest is absent, the model's choice, log entry 26. -/
def Management.afterReset : Management where
  armLatch := false
  cursorTable := .cue
  cursorIndex := 0
  cursorMode := .read
  partialRecord := []
  fill := none
  fillNext := 0
  resetArm := false
  boundary := 0
  side := .low
  limitLock := false

/-! ### The whole part -/

/-- The state of the FG-430. `now` is the microsecond time base and `nextTick` the instant of the next millisecond
tick; `rate1` and `rate0` are the strap pins as read at the last power-on reset (R119); `pending` is the queue of the
commands that wait, the first at its front. -/
structure State where
  now : Time
  nextTick : Time
  rate1 : Bool
  rate0 : Bool
  cues : Vector CueEntry 256
  batch : BatchUnit
  routes : Vector Route 384
  ports : PerLink Port
  freeze : FreezeControl
  globals : GlobalSettings
  management : Management
  flags : GlobalFlags
  lastClipped : RouteId
  pending : List Instr
deriving DecidableEq, Repr

/-- The machine stops with a fault. No constructor: the FG-430's manual names no event that stops the part, and every
command of the model has a next state. -/
inductive Fault where
deriving DecidableEq, Repr

/-- A command has no meaning. -/
inductive Refusal where
  /-- Raised by an arm of `exec` whose command the model does not give a meaning; no arm does. Safe: nothing can be
  proved of a step that does not happen. -/
  | notModelled (mnemonic : String)
deriving DecidableEq, Repr

/-- The line rate that the straps select for Link D (00_scope.md, Electrical summary; R119). -/
def strappedRate (rate1 rate0 : Bool) : LineRate :=
  match rate1, rate0 with
  | false, false => .mbit12
  | false, true => .mbit25
  | true, false => .mbit50
  | true, true => .mbit25

/-- The links after power-on reset and part reset: Link D STARTING at its strapped rate, the board links OFF at
25 Mbit/s (R127, R119, R104). -/
def portsAfterReset (rate1 rate0 : Bool) : PerLink Port where
  d := .afterReset .starting (strappedRate rate1 rate0) .linkDAfterReset
  v := .afterReset .off .mbit25 .boardAfterReset
  a := .afterReset .off .mbit25 .boardAfterReset
  c := .afterReset .off .mbit25 .boardAfterReset

/-- The machine right after power-on reset (R153). The straps stand at 0, 0 (DESIGN CHOICE, log entry 1); the time bases
start afresh, so the first millisecond tick falls one millisecond on (log entry 2); no command waits. -/
def State.reset : State where
  now := 0
  nextTick := Config.millisecond
  rate1 := false
  rate0 := false
  cues := Vector.replicate 256 .afterReset
  batch := .afterReset
  routes := Vector.replicate 384 .afterReset
  ports := portsAfterReset false false
  freeze := .afterReset
  globals := .afterReset
  management := .afterReset
  flags := .clear
  lastClipped := 0
  pending := []

end Sys2Proof.Machine
end

