-- ==== Sys2Proof/Machine/Operands.lean ====
section
/-! DEFINITION. Operand forms: bytes and words of frames and records, the codes of every named value, and the six
management records read from and written to bytes (R133 to R136). -/

namespace Sys2Proof.Machine

/-! ### Bytes -/

/-- The byte at a place of a byte string, 0 past its end. -/
def byteAt (bs : List Byte) (i : Nat) : Byte := bs.getD i 0

/-- The big-endian word at a place of a byte string (R132). -/
def wordAt (bs : List Byte) (i : Nat) : Word := byteAt bs i ++ byteAt bs (i + 1)

/-- A word as its two bytes, most significant first. -/
def wordBytes (w : Word) : List Byte := [w.hi, w.lo]

/-- A whole number as two bytes, most significant first. -/
def natBytes (n : Nat) : List Byte := wordBytes (BitVec.ofNat 16 n)

/-- A vector written place by place. -/
def tabulate {α : Type} (n : Nat) (f : Fin n → α) : Vector α n := ⟨⟨(List.finRange n).map f⟩, by simp⟩

/-- Apply a function to every place of a vector. -/
def mapEach {α : Type} {n : Nat} (f : α → α) (v : Vector α n) : Vector α n := ⟨⟨v.toArray.toList.map f⟩, by simp⟩

/-! ### Codes (R133, R135, R136) -/

/-- The result codes of replies (R133). -/
inductive ResultCode where
  | ok
  | notArmed
  | busy
  | isProtected
  | locked
  | badIndex
  | badValue
  | positionTaken
  | slotTooShort
  | linkState
  | unknownRequest
deriving DecidableEq, Repr

/-- The code of a result (R133). -/
def ResultCode.code : ResultCode → Byte
  | .ok => 0
  | .notArmed => 1
  | .busy => 2
  | .isProtected => 3
  | .locked => 4
  | .badIndex => 5
  | .badValue => 6
  | .positionTaken => 7
  | .slotTooShort => 8
  | .linkState => 9
  | .unknownRequest => 10

/-- The code of a table (R133). -/
def TableId.code : TableId → Byte
  | .cue => 0
  | .route => 1
  | .template => 2
  | .plan => 3
  | .link => 4
  | .global => 5

/-- The table of a code; codes above 5 name none (R141, R145). -/
def TableId.ofCode (b : Byte) : Option TableId :=
  match b.toNat with
  | 0 => some .cue
  | 1 => some .route
  | 2 => some .template
  | 3 => some .plan
  | 4 => some .link
  | 5 => some .global
  | _ => none

/-- The number of indices of a table (chapter 8, table at its head). -/
def TableId.size : TableId → Nat
  | .cue => 256
  | .route => 384
  | .template => 16
  | .plan => 4
  | .link => 4
  | .global => 1

/-- The bytes of one record of a table (R135, R136). -/
def TableId.recordBytes : TableId → Nat
  | .cue => 14
  | .route => 30
  | .template => 7
  | .plan => 24
  | .link => 6
  | .global => 6

/-- The most records one GET reply holds: as many as fit in 48 data bytes (R144). -/
def TableId.recordsPerGet : TableId → Nat
  | .cue => 3
  | .route => 1
  | .template => 6
  | .plan => 2
  | .link => 8
  | .global => 8

/-- The owner of a code (R135). -/
def ownerOfCode (b : BitVec 3) : Option (Option LinkId) :=
  match b.toNat with
  | 0 => some (some .d)
  | 1 => some (some .v)
  | 2 => some (some .a)
  | 3 => some (some .c)
  | 4 => some none
  | _ => none

/-- The code of an owner (R135). -/
def ownerCode : Option LinkId → BitVec 3
  | some .d => 0
  | some .v => 1
  | some .a => 2
  | some .c => 3
  | none => 4

/-- The code of a cue state (R135). -/
def CueState.code : CueState → BitVec 3
  | .empty => 0
  | .live => 1
  | .held => 2
  | .fading => 3
  | .rested => 4

/-- The class of its bit (R135). -/
def CueClass.ofBit (b : Bool) : CueClass := if b then .switch else .analog

/-- The bit of a class (R135). -/
def CueClass.bit : CueClass → Bool
  | .analog => false
  | .switch => true

/-- The route kind of a code; code 3 names none (R135). -/
def RouteKind.ofCode (b : BitVec 2) : Option RouteKind :=
  match b.toNat with
  | 0 => some .off
  | 1 => some .field
  | 2 => some .event
  | _ => none

/-- The code of a route kind (R135). -/
def RouteKind.code : RouteKind → BitVec 2
  | .off => 0
  | .field => 1
  | .event => 2

/-- The combine of a code (R135). -/
def Combine.ofCode (b : BitVec 2) : Combine :=
  match b.toNat with
  | 0 => .pass
  | 1 => .sum
  | 2 => .diff
  | _ => .peak

/-- The code of a combine (R135). -/
def Combine.code : Combine → BitVec 2
  | .pass => 0
  | .sum => 1
  | .diff => 2
  | .peak => 3

/-- The direction of its bit (R135). -/
def Direction.ofBit (b : Bool) : Direction := if b then .falling else .rising

/-- The bit of a direction (R135). -/
def Direction.bit : Direction → Bool
  | .rising => false
  | .falling => true

/-- The link of a two-bit number (R135). -/
def linkOfBits (b : BitVec 2) : LinkId :=
  match b.toNat with
  | 0 => .d
  | 1 => .v
  | 2 => .a
  | _ => .c

/-- The two-bit number of a link (R135). -/
def linkBits (l : LinkId) : BitVec 2 := BitVec.ofNat 2 l.number

/-- The slot rule of a code; codes above 6 name none (R136). -/
def SlotRule.ofCode (b : Byte) : Option SlotRule :=
  match b.toNat with
  | 0 => some .cyclic
  | 1 => some .eventOrCyclic
  | 2 => some .eventOrIdle
  | 3 => some .head
  | 4 => some .tail
  | 5 => some .tailOrEvent
  | 6 => some .idle
  | _ => none

/-- The code of a slot rule (R136). -/
def SlotRule.code : SlotRule → Byte
  | .cyclic => 0
  | .eventOrCyclic => 1
  | .eventOrIdle => 2
  | .head => 3
  | .tail => 4
  | .tailOrEvent => 5
  | .idle => 6

/-- The line rate of a code (R136). -/
def LineRate.ofCode (b : Byte) : Option LineRate :=
  match b.toNat with
  | 0 => some .mbit12
  | 1 => some .mbit25
  | 2 => some .mbit50
  | _ => none

/-- The code of a line rate (R136). -/
def LineRate.code : LineRate → Byte
  | .mbit12 => 0
  | .mbit25 => 1
  | .mbit50 => 2

/-- A byte that must be 0 or 1, as a truth value (R136). -/
def bitOfByte (b : Byte) : Option Bool :=
  match b.toNat with
  | 0 => some false
  | 1 => some true
  | _ => none

/-- A truth value as a byte. -/
def byteOfBit (b : Bool) : Byte := if b then 1 else 0

/-- The code of a freeze state (R132). -/
def FreezeState.code : FreezeState → BitVec 2
  | .run => 0
  | .freezing => 1
  | .frozen => 2
  | .resuming => 3

/-- The code of a link state (R134). -/
def LinkState.code : LinkState → Byte
  | .off => 0
  | .starting => 1
  | .running => 2
  | .halted => 3
  | .down => 4

/-- Whether a result is a refusal. -/
def ResultCode.refused (r : ResultCode) : Bool := r ≠ .ok

/-! ### The CUE record (R135) -/

/-- The effective value of a cue (R3). -/
def CueEntry.effective (e : CueEntry) : Word :=
  match e.override with
  | some v => v
  | none => if e.state = .empty then e.config.neutral else e.value

/-- The configuration part of a CUE record read from its bytes; none for an owner code that names no owner (R17). The
status part is read past (R20). -/
def CueConfig.ofBytes (bs : List Byte) : Option CueConfig :=
  (ownerOfCode ((byteAt bs 0).extractLsb' 0 3)).map fun owner =>
    { cls := .ofBit ((byteAt bs 0).getLsbD 7)
      owner := owner
      neutral := wordAt bs 1
      freshLimit := wordAt bs 3
      holdLimit := wordAt bs 5
      fadeStep := wordAt bs 7 }

/-- The configuration part of a CUE record as its nine bytes. -/
def CueConfig.toBytes (c : CueConfig) : List Byte :=
  (BitVec.ofBool c.cls.bit ++ (0 : BitVec 4) ++ ownerCode c.owner : Byte)
    :: wordBytes c.neutral ++ wordBytes c.freshLimit ++ wordBytes c.holdLimit ++ wordBytes c.fadeStep

/-- The status part of a CUE record as its five bytes (R20). -/
def CueEntry.statusBytes (e : CueEntry) : List Byte :=
  ((0 : BitVec 3) ++ BitVec.ofBool e.override.isSome ++ BitVec.ofBool e.pending.isSome ++ e.state.code : Byte)
    :: wordBytes e.effective ++ wordBytes e.stepTag

/-- A CUE record as GET returns it (R20). -/
def CueEntry.toBytes (e : CueEntry) : List Byte := e.config.toBytes ++ e.statusBytes

/-- The range checks of R17; class, owner and neutral need none beyond their codes. -/
def CueConfig.inRange (c : CueConfig) : Bool :=
  1 ≤ c.freshLimit.toNat && c.freshLimit.toNat ≤ 5000 && c.holdLimit.toNat ≤ 60000
    && 1 ≤ c.fadeStep.toNat && c.fadeStep.toNat ≤ 32767

/-! ### The ROUTE record (R135) -/

/-- A ROUTE record read from its bytes; none for the kind code 3 that names no kind (R42, check 2). -/
def RouteRecord.ofBytes (bs : List Byte) : Option RouteRecord :=
  (RouteKind.ofCode ((byteAt bs 0).extractLsb' 6 2)).map fun kind =>
    { kind := kind
      combine := .ofCode ((byteAt bs 0).extractLsb' 4 2)
      substitutePresent := (byteAt bs 0).getLsbD 3
      direction := .ofBit ((byteAt bs 0).getLsbD 2)
      receiverAddress := (byteAt bs 0).getLsbD 1
      sourceBPresent := (byteAt bs 0).getLsbD 0
      link := linkOfBits ((byteAt bs 1).extractLsb' 6 2)
      template := (byteAt bs 1).extractLsb' 4 2
      shift := (byteAt bs 1).extractLsb' 0 4
      position := byteAt bs 2
      sourceA := byteAt bs 3
      sourceB := byteAt bs 4
      eventClass := byteAt bs 5
      substitute := wordAt bs 6
      gain := wordAt bs 8
      deadband := wordAt bs 10
      bias := wordAt bs 12
      lo := wordAt bs 14
      hi := wordAt bs 16
      slew := wordAt bs 18
      freezeSlew := wordAt bs 20
      neutral := wordAt bs 22
      careMask := wordAt bs 24
      threshold := wordAt bs 26
      hysteresis := wordAt bs 28 }

/-- A ROUTE record as its thirty bytes (R46). -/
def RouteRecord.toBytes (r : RouteRecord) : List Byte :=
  (r.kind.code ++ r.combine.code ++ BitVec.ofBool r.substitutePresent ++ BitVec.ofBool r.direction.bit
      ++ BitVec.ofBool r.receiverAddress ++ BitVec.ofBool r.sourceBPresent : Byte)
    :: (linkBits r.link ++ r.template ++ r.shift : Byte)
    :: r.position :: r.sourceA :: r.sourceB :: r.eventClass
    :: wordBytes r.substitute ++ wordBytes r.gain ++ wordBytes r.deadband ++ wordBytes r.bias ++ wordBytes r.lo
      ++ wordBytes r.hi ++ wordBytes r.slew ++ wordBytes r.freezeSlew ++ wordBytes r.neutral
      ++ wordBytes r.careMask ++ wordBytes r.threshold ++ wordBytes r.hysteresis

/-! ### The TEMPLATE record (R136) -/

/-- A TEMPLATE record read from its bytes. -/
def Template.ofBytes (bs : List Byte) : Template where
  receiverAddress := (byteAt bs 0).getLsbD 0
  fieldCount := byteAt bs 1
  split := if byteAt bs 2 = 0 then none else some (byteAt bs 2)
  tailAddress := (byteAt bs 3).getLsbD 0
  wide := byteAt bs 4 ++ byteAt bs 5 ++ byteAt bs 6

/-- A TEMPLATE record as its seven bytes (R83). -/
def Template.toBytes (t : Template) : List Byte :=
  [byteOfBit t.receiverAddress, t.fieldCount, t.split.getD 0, byteOfBit t.tailAddress,
    t.wide.extractLsb' 16 8, t.wide.extractLsb' 8 8, t.wide.extractLsb' 0 8]

/-! ### The PLAN record (R136) -/

/-- A PLAN record read from its bytes, with checks 1 and 2 of R87: every rule named and every length 0 or 20 to 65535,
then every template number in 0 to 3. -/
def planOfBytes (bs : List Byte) : Except ResultCode Plan :=
  if (List.range 6).any fun k => (SlotRule.ofCode (byteAt bs (4 * k))).isNone
      || (wordAt bs (4 * k + 2) ≠ 0 && (wordAt bs (4 * k + 2)).toNat < Config.slotFloor) then
    .error .badValue
  else if (List.range 6).any fun k => 3 < (byteAt bs (4 * k + 1)).toNat then
    .error .badIndex
  else
    .ok (tabulate 6 fun k =>
      { rule := (SlotRule.ofCode (byteAt bs (4 * k.val))).getD .idle
        template := (byteAt bs (4 * k.val + 1)).setWidth 2
        length := wordAt bs (4 * k.val + 2) })

/-- A slot entry as its four bytes. -/
def Slot.toBytes (s : Slot) : List Byte := [s.rule.code, s.template.setWidth 8] ++ wordBytes s.length

/-- A PLAN record as its twenty-four bytes. -/
def planBytes (p : Plan) : List Byte := p.toList.flatMap Slot.toBytes

/-! ### The LINK record (R136) -/

/-- A LINK record read from its bytes; none when a field holds no code of its own (R120, check 1). -/
def LinkSettings.ofBytes (bs : List Byte) : Option LinkSettings :=
  match LineRate.ofCode (byteAt bs 0), bitOfByte (byteAt bs 1), bitOfByte (byteAt bs 2), bitOfByte (byteAt bs 3) with
  | some rate, some little, some external, some halt =>
    if 1 ≤ (byteAt bs 4).toNat ∧ (byteAt bs 4).toNat ≤ 3 ∧ (byteAt bs 5).toNat ≤ 15 then
      some
        { rate := rate
          order := if little then .little else .big
          trigger := if external then .external else .internal
          haltOnCheck := halt
          evMax := (byteAt bs 4).toNat
          almostFull := (byteAt bs 5).toNat }
    else none
  | _, _, _, _ => none

/-- A LINK record as its six bytes. -/
def LinkSettings.toBytes (s : LinkSettings) : List Byte :=
  [s.rate.code, byteOfBit (s.order = .little), byteOfBit (s.trigger = .external), byteOfBit s.haltOnCheck,
    BitVec.ofNat 8 s.evMax, BitVec.ofNat 8 s.almostFull]

/-! ### The GLOBAL record (R136) -/

/-- A GLOBAL record read from its bytes. -/
def GlobalSettings.ofBytes (bs : List Byte) : GlobalSettings where
  batchWindow := wordAt bs 0
  freezeWindow := wordAt bs 2
  resumeWindow := wordAt bs 4

/-- A GLOBAL record as its six bytes. -/
def GlobalSettings.toBytes (g : GlobalSettings) : List Byte :=
  wordBytes g.batchWindow ++ wordBytes g.freezeWindow ++ wordBytes g.resumeWindow

/-- The range checks of R37 and R108. -/
def GlobalSettings.inRange (g : GlobalSettings) : Bool :=
  1 ≤ g.batchWindow.toNat && g.batchWindow.toNat ≤ 255 && 1 ≤ g.freezeWindow.toNat && g.freezeWindow.toNat ≤ 60000
    && 1 ≤ g.resumeWindow.toNat && g.resumeWindow.toNat ≤ 60000

end Sys2Proof.Machine
end

