-- ==== Sys2Proof/Machine/Ops.lean ====
section
/-! DEFINITION. The named operations over the state: reading and writing one cue, one route, one link; the tables by
index; the time bases. -/

namespace Sys2Proof.Machine

/-! ### Links -/

/-- A link of the part. -/
def State.port (s : State) (l : LinkId) : Port := s.ports.get l

/-- Replace one link. -/
def State.setPort (s : State) (l : LinkId) (p : Port) : State := { s with ports := s.ports.set l p }

/-- Change one link. -/
def State.modPort (s : State) (l : LinkId) (f : Port → Port) : State := s.setPort l (f (s.port l))

/-- Set flags of one link. -/
def State.modLinkFlags (s : State) (l : LinkId) (f : LinkFlags → LinkFlags) : State :=
  s.modPort l fun p => { p with flags := f p.flags }

/-- A link is RUNNING. -/
def State.running (s : State) (l : LinkId) : Bool := (s.port l).state = .running

/-- A template of a link by its two-bit number. -/
def Port.template (p : Port) (t : BitVec 2) : Template := p.templates[t.toNat]'t.isLt

/-! ### Cues -/

/-- The cue that a byte names. -/
def cueOfByte (b : Byte) : CueId := ⟨b.toNat, b.isLt⟩

/-- A cue entry. -/
def State.cue (s : State) (c : CueId) : CueEntry := s.cues[c.val]

/-- Replace one cue entry. -/
def State.setCue (s : State) (c : CueId) (e : CueEntry) : State := { s with cues := s.cues.set c.val e }

/-- Change one cue entry. -/
def State.modCue (s : State) (c : CueId) (f : CueEntry → CueEntry) : State := s.setCue c (f (s.cue c))

/-- Change every cue entry, each by its own fields alone. -/
def State.mapCues (s : State) (f : CueEntry → CueEntry) : State := { s with cues := mapEach f s.cues }

/-- The effective value of a cue at this instant (R3). -/
def State.effective (s : State) (c : CueId) : Word := (s.cue c).effective

/-- A cue that its limits have made stale: HELD, FADING or RESTED (R14). -/
def CueEntry.stale (e : CueEntry) : Bool := e.state = .held || e.state = .fading || e.state = .rested

/-- The stale count of a link (R14): the cues it owns that are HELD, FADING or RESTED, counted from the entries. -/
def State.staleCount (s : State) (l : LinkId) : Nat :=
  s.cues.toArray.toList.countP fun e => e.config.owner = some l && e.stale

/-! ### Routes -/

/-- A route. -/
def State.route (s : State) (r : RouteId) : Route := s.routes[r.val]

/-- Replace one route. -/
def State.setRoute (s : State) (r : RouteId) (x : Route) : State := { s with routes := s.routes.set r.val x }

/-- Change every route, each by its own fields alone. -/
def State.mapRoutes (s : State) (f : Route → Route) : State := { s with routes := mapEach f s.routes }

/-- Every route id, 0 upward. -/
def allRoutes : List RouteId := List.finRange 384

/-- Bring a route's settled mark up to date: set while a FIELD route's held value equals its neutral output (R110). -/
def Route.refreshSettled (x : Route) : Route :=
  { x with settled := x.record.kind = .field && x.held = x.record.neutral }

/-! ### Management state -/

/-- Change the management unit. -/
def State.modManagement (s : State) (f : Management → Management) : State := { s with management := f s.management }

/-- A FILL is in flight (chapter 8). -/
def State.busy (s : State) : Bool := s.management.fill.isSome

/-- The route is protected (R149). -/
def Management.protects (m : Management) (r : Nat) : Bool :=
  match m.side with
  | .low => r < m.boundary
  | .high => m.boundary ≤ r

/-! ### Time -/

/-- The time base stands at an instant, if it has not passed it yet (log entry 2). -/
def State.reachTime (s : State) (t : Time) : State := { s with now := max s.now t }

/-- The instant a number of microseconds from now. -/
def State.afterMicroseconds (s : State) (n : Nat) : Time := s.now + n * unitsPerMicrosecond

end Sys2Proof.Machine
end

