-- ==== Sys2Proof/Machine/Flags.lean ====
section
/-! DEFINITION. The status side: the flag bits of R134, what CLEAR does to them, PRESSURE (R79) and the summary byte
(R132). -/

namespace Sys2Proof.Machine

/-- The global flags as their byte (R134). -/
def GlobalFlags.toByte (f : GlobalFlags) : Byte :=
  BitVec.ofBool false ++ BitVec.ofBool f.clipped ++ BitVec.ofBool f.partialDiscarded ++ BitVec.ofBool f.replyLost
    ++ BitVec.ofBool f.resumeLate ++ BitVec.ofBool f.freezeLate ++ BitVec.ofBool f.stepTimeout
    ++ BitVec.ofBool f.stepTorn

/-- The flags of a link as their word (R134). -/
def LinkFlags.toWord (f : LinkFlags) : Word :=
  (0 : BitVec 7) ++ BitVec.ofBool f.signalLost ++ BitVec.ofBool f.startTimeout ++ BitVec.ofBool f.eventDrop
    ++ BitVec.ofBool f.tailOrphan ++ BitVec.ofBool f.slotOverrun ++ BitVec.ofBool f.wrongKind
    ++ BitVec.ofBool f.ownerMismatch ++ BitVec.ofBool f.seqGap ++ BitVec.ofBool f.checkErr

/-- Clear the global flags whose bit is set in a selection; bit 7 names no flag (R155). -/
def GlobalFlags.clearBy (f : GlobalFlags) (sel : Byte) : GlobalFlags where
  stepTorn := f.stepTorn && !sel.getLsbD 0
  stepTimeout := f.stepTimeout && !sel.getLsbD 1
  freezeLate := f.freezeLate && !sel.getLsbD 2
  resumeLate := f.resumeLate && !sel.getLsbD 3
  replyLost := f.replyLost && !sel.getLsbD 4
  partialDiscarded := f.partialDiscarded && !sel.getLsbD 5
  clipped := f.clipped && !sel.getLsbD 6

/-- Clear the flags of a link whose bit is set in a selection; bits 15 to 9 name no flag (R155). -/
def LinkFlags.clearBy (f : LinkFlags) (sel : Word) : LinkFlags where
  checkErr := f.checkErr && !sel.getLsbD 0
  seqGap := f.seqGap && !sel.getLsbD 1
  ownerMismatch := f.ownerMismatch && !sel.getLsbD 2
  wrongKind := f.wrongKind && !sel.getLsbD 3
  slotOverrun := f.slotOverrun && !sel.getLsbD 4
  tailOrphan := f.tailOrphan && !sel.getLsbD 5
  eventDrop := f.eventDrop && !sel.getLsbD 6
  startTimeout := f.startTimeout && !sel.getLsbD 7
  signalLost := f.signalLost && !sel.getLsbD 8

/-- At least one global sticky flag is set (R132). -/
def GlobalFlags.any (f : GlobalFlags) : Bool :=
  f.stepTorn || f.stepTimeout || f.freezeLate || f.resumeLate || f.replyLost || f.partialDiscarded || f.clipped

/-- Change the global flags. -/
def State.modFlags (s : State) (f : GlobalFlags → GlobalFlags) : State := { s with flags := f s.flags }

/-- The level of a link's event queue (R72). -/
def State.level (s : State) (l : LinkId) : Nat := (s.port l).queue.length

/-- PRESSURE of a link: its queue level is at or above 16 less the almost-full offset (R79). -/
def State.pressure (s : State) (l : LinkId) : Bool :=
  Config.queueCapacity - (s.port l).settings.almostFull ≤ s.level l

/-- The summary byte from the state standing now (R132). -/
def State.summary (s : State) : Byte :=
  s.freeze.state.code ++ BitVec.ofBool s.batch.isOpen ++ BitVec.ofBool s.busy ++ BitVec.ofBool s.flags.any
    ++ BitVec.ofBool (LinkId.all.any s.pressure) ++ (0 : BitVec 2)

end Sys2Proof.Machine
end

