-- ==== Sys2Proof/Machine/Frames.lean ====
section
/-! DEFINITION. Frames: their layout and kinds (R132, R133), the CRC-8 (R128), frame time and slot minimums (R98,
R100), template payloads (R83). -/

namespace Sys2Proof.Machine

/-! ### Kinds and the check byte -/

/-- Kind code of CYCLIC (R133). -/
def kindCyclic : Byte := 0x01
/-- Kind code of HEAD (R133). -/
def kindHead : Byte := 0x02
/-- Kind code of TAIL (R133). -/
def kindTail : Byte := 0x03
/-- Kind code of EVENT (R133). -/
def kindEvent : Byte := 0x04
/-- Kind code of REPLY (R133). -/
def kindReply : Byte := 0x05
/-- Kind code of UPDATE (R133). -/
def kindUpdate : Byte := 0x06
/-- Kind code of REQUEST (R133). -/
def kindRequest : Byte := 0x07

/-- The maximum payload of a kind code, 62 for a code with no assigned kind (R128, R133). -/
def maxPayload (kind : Byte) : Nat :=
  match kind.toNat with
  | 1 => 48
  | 2 => 48
  | 3 => 48
  | 4 => 8
  | 5 => 52
  | 6 => 60
  | _ => 62

/-- One bit of the CRC-8 division by x^8 + x^2 + x + 1. -/
def crcShift (crc : Byte) : Byte := if crc.getLsbD 7 then (crc <<< 1) ^^^ 0x07 else crc <<< 1

/-- Take one byte, most significant bit first, into the CRC-8. -/
def crcByte (crc b : Byte) : Byte :=
  crcShift (crcShift (crcShift (crcShift (crcShift (crcShift (crcShift (crcShift (crc ^^^ b))))))))

/-- The CRC-8 of a byte string (R128). -/
def crc8 (bs : List Byte) : Byte := bs.foldl crcByte 0

/-- A frame as its fields. -/
structure Frame where
  kind : Byte
  control : Byte
  seq : Byte
  stepTag : Word
  summary : Byte
  payload : List Byte
deriving DecidableEq, Repr

/-- The header and payload of a frame (R132). -/
def Frame.body (f : Frame) : List Byte :=
  [f.kind, f.control, f.seq, f.stepTag.hi, f.stepTag.lo, f.summary, BitVec.ofNat 8 f.payload.length] ++ f.payload

/-- A frame as its bytes, the check byte last (R128, R132). -/
def Frame.toBytes (f : Frame) : List Byte := f.body ++ [crc8 f.body]

/-- A frame read from its bytes up to and with its check byte; none when it fails its check: its bytes do not make up
its length, the length exceeds the kind's maximum, the check byte is wrong, or an UPDATE's payload is not a multiple of
three (R128). -/
def Frame.ofBytes (bs : List Byte) : Option Frame :=
  if bs.length = 8 + (byteAt bs 6).toNat
      ∧ (byteAt bs 6).toNat ≤ maxPayload (byteAt bs 0)
      ∧ byteAt bs (bs.length - 1) = crc8 (bs.take (bs.length - 1))
      ∧ (byteAt bs 0 = kindUpdate → (byteAt bs 6).toNat % 3 = 0) then
    some
      { kind := byteAt bs 0
        control := byteAt bs 1
        seq := byteAt bs 2
        stepTag := wordAt bs 3
        summary := byteAt bs 5
        payload := (bs.take (bs.length - 1)).drop 7 }
  else none

/-- The OPEN bit of a control byte (R132). -/
def Frame.opens (f : Frame) : Bool := f.control.getLsbD 1

/-- The CLOSE bit of a control byte (R132). -/
def Frame.closes (f : Frame) : Bool := f.control.getLsbD 2

/-! ### Template sizes (R83) -/

/-- The field count of a template as a number. -/
def Template.fields (t : Template) : Nat := t.fieldCount.toNat

/-- The width of a position: true for 16 bits, false for 8 (R136). -/
def Template.isWide (t : Template) (i : Nat) : Bool := t.wide.getMsbD i

/-- The payload bytes of a run of positions. -/
def Template.bytesOf (t : Template) (positions : List Nat) : Nat :=
  (positions.map fun i => if t.isWide i then 2 else 1).sum

/-- The first position of the tail; a template without a split point has no tail (log entry 8). -/
def Template.splitAt (t : Template) : Nat := (t.split.map BitVec.toNat).getD t.fields

/-- The payload of the cyclic frame (R83). -/
def Template.payloadBytes (t : Template) : Nat := t.bytesOf (List.range t.fields)

/-- The payload of the head (R83). -/
def Template.headBytes (t : Template) : Nat := t.bytesOf ((List.range t.fields).take t.splitAt)

/-- The payload of the tail (R83). -/
def Template.tailBytes (t : Template) : Nat := t.bytesOf ((List.range t.fields).drop t.splitAt)

/-! ### Frame time and slot length (R98, R100) -/

/-- The time of one line symbol (R98, R118). -/
def LineRate.symbolTime : LineRate → Time
  | .mbit12 => 4
  | .mbit25 => 2
  | .mbit50 => 1

/-- The transmission time of a frame of so many bytes: its symbols, with one frame-start (R98). -/
def frameTime (rate : LineRate) (bytes : Nat) : Time := (bytes + 1) * rate.symbolTime

/-- The least slot length in µs for a frame of so many bytes (R100). -/
def slotMinimum (rate : LineRate) (bytes : Nat) : Nat :=
  max Config.slotFloor
    ((frameTime rate bytes + Config.slotGap + (unitsPerMicrosecond - 1)) / unitsPerMicrosecond)

/-- The largest event-class frame of a link: a REPLY with 48 data bytes on Link D, an EVENT frame on a board link
(R100). -/
def eventFrameBytes (l : LinkId) : Nat := if l = .d then 60 else 16

/-- The least length of a slot under its rule, with its template (R100). -/
def ruleMinimum (l : LinkId) (rate : LineRate) (rule : SlotRule) (t : Template) : Nat :=
  match rule with
  | .cyclic => slotMinimum rate (8 + t.payloadBytes)
  | .eventOrCyclic => slotMinimum rate (max (eventFrameBytes l) (8 + t.payloadBytes))
  | .eventOrIdle => slotMinimum rate (eventFrameBytes l)
  | .head => slotMinimum rate (8 + t.headBytes)
  | .tail => slotMinimum rate (8 + t.tailBytes)
  | .tailOrEvent => slotMinimum rate (max (eventFrameBytes l) (8 + t.tailBytes))
  | .idle => Config.slotFloor

/-- Every slot of nonzero length of a plan fits at a rate with a link's templates (R101). -/
def planFits (l : LinkId) (rate : LineRate) (templates : BitVec 2 → Template) (p : Plan) : Bool :=
  p.toArray.toList.all fun slot =>
    slot.length = 0 || ruleMinimum l rate slot.rule (templates slot.template) ≤ slot.length.toNat

end Sys2Proof.Machine
end

