-- ==== Sys2Proof/Machine/Transform.lean ====
section
/-! DEFINITION. The cue transform as arithmetic on whole numbers: stages 1 to 5 (R48 to R52), the slew stage (R53), the
encoding (R54, R55), the SWITCH pattern (R56) and the peak register's choice (R57). -/

namespace Sys2Proof.Machine

/-- A magnitude with a sign. -/
def withSignOf (p : Int) (m : Nat) : Int := if p < 0 then -(m : Int) else m

/-- Stage 1: the number the route works on (R48). -/
def selectStage (r : RouteRecord) (peak : Option Word) (a b : Int) : Int :=
  if r.substitutePresent then r.substitute.toInt
  else
    match r.combine with
    | .pass => a
    | .sum => a + b
    | .diff => a - b
    | .peak => (peak.map BitVec.toInt).getD a

/-- Stage 2: multiply by the gain, divide by 2 to the shift, round to nearest with halves away from zero (R49). -/
def scaleStage (gain : Int) (shift : Nat) (x : Int) : Int :=
  if shift = 0 then x * gain
  else withSignOf (x * gain) (((x * gain).natAbs + 2 ^ (shift - 1)) / 2 ^ shift)

/-- Stage 3: the deadband (R50). -/
def deadbandStage (band : Nat) (y1 : Int) : Int :=
  if y1.natAbs ≤ band then 0 else if 0 < y1 then y1 - band else y1 + band

/-- Stages 1 to 4: the number the clamp receives (R48 to R51). -/
def stagesToBias (r : RouteRecord) (peak : Option Word) (a b : Int) : Int :=
  deadbandStage r.deadband.toNat (scaleStage r.gain.toInt r.shift.toNat (selectStage r peak a b)) + r.bias.toInt

/-- Stage 5: the clamp to lo and hi (R52). -/
def clampStage (lo hi y3 : Int) : Int := if y3 < lo then lo else if hi < y3 then hi else y3

/-- Stages 1 to 5: the limited value y4. -/
def limitedValue (r : RouteRecord) (peak : Option Word) (a b : Int) : Int :=
  clampStage r.lo.toInt r.hi.toInt (stagesToBias r peak a b)

/-- Stages 1 to 5 clip: y4 differs from y3 (R52). -/
def clips (r : RouteRecord) (peak : Option Word) (a b : Int) : Bool :=
  limitedValue r peak a b ≠ stagesToBias r peak a b

/-- Stage 6: move a held value toward a target by at most a limit; a limit of 0 is none (R53). -/
def slewStage (limit : Nat) (held target : Int) : Int :=
  if limit ≠ 0 ∧ limit < (target - held).natAbs then
    if held < target then held + limit else held - limit
  else target

/-- The target of a FIELD route of an ANALOG source in a freeze state (R53). -/
def slewTarget (f : FreezeState) (y4 neutral : Int) : Int :=
  match f with
  | .run => y4
  | .freezing => neutral
  | .frozen => neutral
  | .resuming => y4

/-- The limit of a FIELD route in a freeze state (R53). -/
def slewLimit (f : FreezeState) (r : RouteRecord) : Nat :=
  match f with
  | .run => r.slew.toNat
  | .freezing => r.freezeSlew.toNat
  | .frozen => r.freezeSlew.toNat
  | .resuming => r.freezeSlew.toNat

/-- The value an 8-bit field carries: scaled down by 256, halves away from zero, saturated (R55). -/
def narrowValue (y5 : Int) : Int :=
  clampStage (-128) 127 (withSignOf y5 ((y5.natAbs + 128) / 256))

/-- A word as the two bytes of a 16-bit field in a link's byte order (R54). -/
def fieldBytes (order : ByteOrder) (w : Word) : List Byte :=
  match order with
  | .big => [w.hi, w.lo]
  | .little => [w.lo, w.hi]

/-- Stage 7 of an ANALOG route: the bytes of a field (R54, R55). -/
def encodeAnalog (wide : Bool) (order : ByteOrder) (w : Word) : List Byte :=
  if wide then fieldBytes order w else [BitVec.ofInt 8 (narrowValue w.toInt)]

/-- The bytes of a field that a SWITCH route fills (R56). -/
def encodeSwitch (wide : Bool) (order : ByteOrder) (w : Word) : List Byte :=
  if wide then fieldBytes order w else [w.lo]

/-- The bytes of a field that no route fills (R60). -/
def encodeEmpty (wide : Bool) : List Byte := if wide then [0, 0] else [0]

/-- What a SWITCH route sends in a freeze state (R56). -/
def switchTarget (f : FreezeState) (x neutral : Word) : Word :=
  match f with
  | .run => x
  | .freezing => neutral
  | .frozen => neutral
  | .resuming => x

/-- The peak register after a commit of the source: the value of greater magnitude, the new one when they are equal
(R57). -/
def peakAfter (old : Option Word) (new : Word) : Word :=
  match old with
  | none => new
  | some p => if new.toInt.natAbs < p.toInt.natAbs then p else new

end Sys2Proof.Machine
end

