-- ==== Sys2Proof/Machine/RouteEngine.lean ====
section
/-! DEFINITION. The route engine over the state: computing FIELD routes at a frame build (R52 to R60) and the peak
registers at a commit (R57). -/

namespace Sys2Proof.Machine

/-- The class of a route's source A at this instant (R47). -/
def State.sourceClass (s : State) (r : RouteRecord) : CueClass := (s.cue (cueOfByte r.sourceA)).config.cls

/-- The effective value of a route's source A. -/
def State.sourceA (s : State) (r : RouteRecord) : Word := s.effective (cueOfByte r.sourceA)

/-- The effective value of a route's source B, read as a signed integer by the stages that use it (R47). -/
def State.sourceB (s : State) (r : RouteRecord) : Word := s.effective (cueOfByte r.sourceB)

/-- Record a clip of a route: CLIPPED and the last clipped route id (R52). -/
def State.noteClip (s : State) (id : RouteId) (clipped : Bool) : State :=
  if clipped then { s with flags := { s.flags with clipped := true }, lastClipped := id } else s

/-- The limited value y4 of a route at this instant, with a peak register (R48 to R52). -/
def State.limited (s : State) (r : RouteRecord) (peak : Option Word) : Int :=
  limitedValue r peak (s.sourceA r).toInt (s.sourceB r).toInt

/-- A route clips at this instant (R52). -/
def State.clipsNow (s : State) (r : RouteRecord) (peak : Option Word) : Bool :=
  clips r peak (s.sourceA r).toInt (s.sourceB r).toInt

/-- The route state after a computation on an ANALOG source: the slew stage, the peak register read and cleared, the
marks (R53, R58, R110, R111). -/
def Route.afterAnalog (x : Route) (f : FreezeState) (y4 : Int) : Route :=
  Route.refreshSettled
    { x with
      held := BitVec.ofInt 16
        (slewStage (slewLimit f x.record) x.held.toInt (slewTarget f y4 x.record.neutral.toInt))
      peak := none
      converged := x.converged || (f = .resuming
        && (x.record.freezeSlew = 0 || (y4 - x.held.toInt).natAbs ≤ x.record.freezeSlew.toNat)) }

/-- The route state after a computation on a SWITCH source (R56, R58, R110, R111). -/
def Route.afterSwitch (x : Route) (f : FreezeState) (pattern : Word) : Route :=
  Route.refreshSettled
    { x with
      held := switchTarget f pattern x.record.neutral
      peak := none
      converged := x.converged || f = .resuming }

/-- Compute a FIELD route at a frame build (R53, R56, R59). -/
def State.computeField (s : State) (id : RouteId) : State :=
  let x := s.route id
  match s.sourceClass x.record with
  | .switch => s.setRoute id (x.afterSwitch s.freeze.state (s.sourceA x.record &&& x.record.careMask))
  | .analog =>
    (s.setRoute id (x.afterAnalog s.freeze.state (s.limited x.record x.peak))).noteClip id
      (s.clipsNow x.record x.peak)

/-- The bytes that a route's held value makes in its field (R54, R55, R56). -/
def State.heldBytes (s : State) (id : RouteId) (wide : Bool) (order : ByteOrder) : List Byte :=
  match s.sourceClass (s.route id).record with
  | .switch => encodeSwitch wide order (s.route id).held
  | .analog => encodeAnalog wide order (s.route id).held

/-- A FIELD route that fills a position of a template (R44, R60). -/
def RouteRecord.fills (r : RouteRecord) (l : LinkId) (t : BitVec 2) (position : Nat) : Bool :=
  r.kind = .field && r.link = l && r.template = t && r.position.toNat = position

/-- The FIELD route that fills a position, if one does (R60). -/
def State.routeAt (s : State) (l : LinkId) (t : BitVec 2) (position : Nat) : Option RouteId :=
  allRoutes.find? fun id => (s.route id).record.fills l t position

/-- Compute the fields of a run of positions in their order, one after another at one instant (R52, R59, R60): the
state after it and the bytes of each field. -/
def State.buildFields (s : State) (l : LinkId) (t : BitVec 2) : List Nat → State × List (List Byte)
  | [] => (s, [])
  | i :: rest =>
    let wide := ((s.port l).template t).isWide i
    match s.routeAt l t i with
    | none => let r := s.buildFields l t rest; (r.1, encodeEmpty wide :: r.2)
    | some id =>
      let s' := s.computeField id
      let r := s'.buildFields l t rest
      (r.1, s'.heldBytes id wide (s.port l).settings.order :: r.2)

/-- Build a template: every FIELD route of it computed, every position laid out (R59, R60). -/
def State.buildTemplate (s : State) (l : LinkId) (t : BitVec 2) : State × List (List Byte) :=
  s.buildFields l t (List.range ((s.port l).template t).fields)

/-- The peak register of a route after a commit notice (R57). -/
def State.peakUpdated (s : State) (cues : List CueId) (x : Route) : Route :=
  if x.record.kind = .field && x.record.combine = .peak && cues.contains (cueOfByte x.record.sourceA) then
    { x with peak := some (peakAfter x.peak (s.sourceA x.record)) }
  else x

/-- Update every peak register that a commit notice concerns (R57). -/
def State.updatePeaks (s : State) (cues : List CueId) : State := s.mapRoutes (s.peakUpdated cues)

end Sys2Proof.Machine
end

