-- ==== Sys2Proof/Machine/EventQueues.lean ====
section
/-! DEFINITION. EVENT routes and the event queues: evaluation at a commit notice (R66 to R71), offers (R73, R74) and
the head's availability (R75). -/

namespace Sys2Proof.Machine

/-! ### Offers -/

/-- A queue record is the CUE_EVENT of a route. -/
def QueueRecord.isEventOf (r : RouteId) : QueueRecord → Bool
  | .cueEvent e => e.route = r
  | .reply _ => false

/-- The instant from which a record may be sent (R71, R74). -/
def QueueRecord.eligible : QueueRecord → Time
  | .cueEvent e => e.eligible
  | .reply r => r.eligible

/-- A waiting record brought up to date by a later firing of its route: value and step tag alone (R73). -/
def QueueRecord.merged (new : CueEvent) : QueueRecord → QueueRecord
  | .cueEvent e => if e.route = new.route then .cueEvent { e with value := new.value, stepTag := new.stepTag } else .cueEvent e
  | .reply r => .reply r

/-- Offer a CUE_EVENT record to a link's queue: merge, append or drop (R73). -/
def State.offerCueEvent (s : State) (l : LinkId) (e : CueEvent) : State :=
  if (s.port l).queue.any (QueueRecord.isEventOf e.route) then
    s.modPort l fun p => { p with queue := p.queue.map (QueueRecord.merged e) }
  else if s.level l < Config.queueCapacity then
    s.modPort l fun p => { p with queue := p.queue ++ [.cueEvent e] }
  else s.modLinkFlags l fun f => { f with eventDrop := true }

/-- Offer a REPLY record to Link D's queue: append, or lose it with REPLY_LOST (R74). -/
def State.offerReply (s : State) (tag code : Byte) (result : ResultCode) (count : Nat) (data : List Byte) : State :=
  if s.running .d && s.level .d < Config.queueCapacity then
    s.modPort .d fun p => { p with queue := p.queue ++
      [.reply { tag := tag, code := code, result := result.code, count := BitVec.ofNat 8 count, data := data, eligible := s.now }] }
  else s.modFlags fun f => { f with replyLost := true }

/-- The head of a link's queue, if it is available now (R75). -/
def State.availableHead (s : State) (l : LinkId) : Option QueueRecord :=
  match (s.port l).queue with
  | [] => none
  | r :: _ => if r.eligible ≤ s.now then some r else none

/-! ### Evaluation -/

/-- An EVENT route fires: its CUE_EVENT record is offered to its link's queue (R71). -/
def State.fire (s : State) (id : RouteId) (value : Word) : State :=
  let r := (s.route id).record
  s.offerCueEvent r.link
    { route := id
      cue := r.sourceA
      eventClass := r.eventClass
      value := value
      stepTag := s.batch.currentTag
      receiverAddress := r.receiverAddress
      eligible := s.now + Config.eventLead }

/-- The value is at or past the threshold (R67, R68). -/
def RouteRecord.reached (r : RouteRecord) (y4 : Int) : Bool :=
  match r.direction with
  | .rising => r.threshold.toInt ≤ y4
  | .falling => y4 ≤ r.threshold.toInt

/-- The value is back past the hysteresis (R67, R68). -/
def RouteRecord.returned (r : RouteRecord) (y4 : Int) : Bool :=
  match r.direction with
  | .rising => y4 < r.threshold.toInt - r.hysteresis.toNat
  | .falling => r.threshold.toInt + r.hysteresis.toNat < y4

/-- The threshold test of an EVENT route of an ANALOG source (R67, R68). -/
def State.testThreshold (s : State) (id : RouteId) (y4 : Int) : State :=
  let x := s.route id
  if x.armed then
    if x.record.reached y4 then (s.setRoute id { x with armed := false }).fire id (BitVec.ofInt 16 y4) else s
  else if x.record.returned y4 then s.setRoute id { x with armed := true }
  else s

/-- The evaluation of an EVENT route of an ANALOG source (R62, R67, R68). -/
def State.evaluateAnalog (s : State) (id : RouteId) : State :=
  let r := (s.route id).record
  (s.noteClip id (s.clipsNow r none)).testThreshold id (s.limited r none)

/-- The evaluation of an EVENT route of a SWITCH source: the cared bits of value and previous (R69). -/
def State.evaluateSwitch (s : State) (id : RouteId) : State :=
  let r := (s.route id).record
  let e := s.cue (cueOfByte r.sourceA)
  if e.value &&& r.careMask = e.previous &&& r.careMask then s else s.fire id (e.effective &&& r.careMask)

/-- EVENT routes of a link are evaluated now (R66). -/
def State.evaluates (s : State) (l : LinkId) : Bool :=
  (s.freeze.state = .run || s.freeze.state = .resuming) && s.running l

/-- Evaluate one EVENT route that a notice concerns, or skip it (R66). -/
def State.evaluate (s : State) (id : RouteId) : State :=
  if s.evaluates (s.route id).record.link then
    match s.sourceClass (s.route id).record with
    | .switch => s.evaluateSwitch id
    | .analog => s.evaluateAnalog id
  else s

/-- A commit notice's cues concern an EVENT route: they list its source A, or, for an ANALOG source A, its source B
(R39, R66). -/
def State.concerns (s : State) (cues : List CueId) (r : RouteRecord) : Bool :=
  r.kind = .event
    && (cues.contains (cueOfByte r.sourceA)
      || (s.sourceClass r = .analog && r.sourceBPresent && cues.contains (cueOfByte r.sourceB)))

/-- The EVENT routes that a notice concerns, in the order of their ids (R66). -/
def State.eventRoutesOf (s : State) (cues : List CueId) : List RouteId :=
  allRoutes.filter fun id => s.concerns cues (s.route id).record

/-- The route engine takes a commit notice: peak registers, then EVENT routes (R39). -/
def State.takeNotice (s : State) (cues : List CueId) : State :=
  let s' := s.updatePeaks cues
  (s'.eventRoutesOf cues).foldl State.evaluate s'

end Sys2Proof.Machine
end

