-- ==== Sys2Proof/Machine/Freeze.lean ====
section
/-! DEFINITION. The freeze controller's own work: which routes it counts (R109), its re-evaluation (R112), its windows
(R108), and the entries to FREEZING and RESUMING (R106, R107). -/

namespace Sys2Proof.Machine

/-- A slot rule that names its template for the freeze controller (R86). -/
def SlotRule.namesTemplate : SlotRule → Bool
  | .cyclic => true
  | .eventOrCyclic => true
  | .eventOrIdle => false
  | .head => true
  | .tail => true
  | .tailOrEvent => true
  | .idle => false

/-- A plan names a template: some slot of nonzero length names it under a naming rule (R86). -/
def planNames (p : Plan) (t : BitVec 2) : Bool :=
  p.toArray.toList.any fun slot => slot.length ≠ 0 && slot.rule.namesTemplate && slot.template = t

/-- A route is counted: FIELD, on a RUNNING link, its template named by the link's plan (R109). -/
def State.counts (s : State) (x : Route) : Bool :=
  x.record.kind = .field && s.running x.record.link && planNames (s.port x.record.link).plan x.record.template

/-- Every counted route satisfies a test. -/
def State.allCounted (s : State) (test : Route → Bool) : Bool :=
  s.routes.toArray.toList.all fun x => !s.counts x || test x

/-- The freeze state becomes FROZEN or RUN and the window timer stops (R108, R112). -/
def State.endRamp (s : State) (f : FreezeState) : State := { s with freeze := { state := f, timer := none } }

/-- The controller re-evaluates its ramp (R112). -/
def State.reevaluate (s : State) : State :=
  match s.freeze.state with
  | .freezing => if s.allCounted Route.settled then s.endRamp .frozen else s
  | .resuming => if s.allCounted Route.converged then s.endRamp .run else s
  | .run => s
  | .frozen => s

/-- Expiry of the freeze window: FROZEN, with FREEZE_LATE (R108). -/
def State.expireFreeze (s : State) : State := (s.endRamp .frozen).modFlags fun f => { f with freezeLate := true }

/-- Expiry of the resume window: RUN, with RESUME_LATE (R108). -/
def State.expireResume (s : State) : State := (s.endRamp .run).modFlags fun f => { f with resumeLate := true }

/-- In FREEZING, a window timer that has reached the freeze window expires (R108). -/
def State.testFreezeWindow (s : State) : State :=
  match s.freeze.state, s.freeze.timer with
  | .freezing, some n => if s.globals.freezeWindow.toNat ≤ n then s.expireFreeze else s
  | _, _ => s

/-- In RESUMING, a window timer that has reached the resume window expires (R108). -/
def State.testResumeWindow (s : State) : State :=
  match s.freeze.state, s.freeze.timer with
  | .resuming, some n => if s.globals.resumeWindow.toNat ≤ n then s.expireResume else s
  | _, _ => s

/-- The window timer's part of a tick: in FREEZING and RESUMING the count rises by 1 and is then compared with the
window in force (R108). -/
def State.tickWindow (s : State) : State :=
  let counted := { s with freeze := { s.freeze with timer := s.freeze.timer.map (· + 1) } }
  match s.freeze.state with
  | .freezing => counted.testFreezeWindow
  | .resuming => counted.testResumeWindow
  | .run => s
  | .frozen => s

/-- Remove every CUE_EVENT record from a queue; the replies close up in their order (R78). -/
def purgeCueEvents (q : List QueueRecord) : List QueueRecord :=
  q.filter fun
    | .cueEvent _ => false
    | .reply _ => true

/-- Remove every CUE_EVENT record from every queue (R78). -/
def State.purgeQueues (s : State) : State :=
  LinkId.all.foldl (fun s l => s.modPort l fun p => { p with queue := purgeCueEvents p.queue }) s

/-- FREEZE's own work (R106). -/
def State.enterFreezing (s : State) : State :=
  match s.freeze.state with
  | .run => ({ s with freeze := { state := .freezing, timer := some 0 } }).purgeQueues.reevaluate
  | .resuming => ({ s with freeze := { state := .freezing, timer := some 0 } }).purgeQueues.reevaluate
  | .freezing => s
  | .frozen => s

/-- Clear every route's converged mark (R107). -/
def State.clearConverged (s : State) : State := s.mapRoutes fun x => { x with converged := false }

/-- RESUME's own work (R107). -/
def State.enterResuming (s : State) : State :=
  match s.freeze.state with
  | .frozen => ({ s with freeze := { state := .resuming, timer := some 0 } }).clearConverged.reevaluate
  | .freezing => ({ s with freeze := { state := .resuming, timer := some 0 } }).clearConverged.reevaluate
  | .run => s
  | .resuming => s

end Sys2Proof.Machine
end

