-- ==== Sys2Proof/Machine/Scheduler.lean ====
section
/-! DEFINITION. The schedulers: sending a frame (R97, R98, R131), the slot rules (R91 to R95), overrun (R99), the walk
(R89, R90). -/

namespace Sys2Proof.Machine

/-! ### Sending -/

/-- A control byte of an outbound frame: the receiver address, OPEN and CLOSE 0 (R131). -/
def controlByte (receiverAddress : Bool) : Byte := byteOfBit receiverAddress

/-- Put a frame on a link's line now: the transmit sequence and the time it takes (R98, R131). -/
def State.send (s : State) (l : LinkId) (summary kind : Byte) (address : Bool) (tag : Word) (payload : List Byte) :
    State :=
  let p := s.port l
  let f : Frame :=
    { kind := kind, control := controlByte address, seq := p.transmitSeq, stepTag := tag, summary := summary,
      payload := payload }
  s.setPort l
    { p with
      transmitSeq := p.transmitSeq + 1
      line := some { bytes := f.toBytes, complete := s.now + frameTime p.settings.rate f.toBytes.length } }

/-- Set a link's consecutive-event count (R93). -/
def State.setEventCount (s : State) (l : LinkId) (n : Nat) : State := s.modPort l fun p => { p with eventCount := n }

/-- The payload of an EVENT frame (R76, R133). -/
def CueEvent.payload (e : CueEvent) : List Byte :=
  natBytes e.route.val ++ [e.cue, e.eventClass] ++ wordBytes e.value ++ [0, 0]

/-- The payload of a REPLY frame (R76, R133). -/
def Reply.payload (r : Reply) : List Byte := [r.tag, r.code, r.result, r.count] ++ r.data

/-- Send a record taken from a link's queue as an event-class frame (R76, R93). -/
def State.sendRecord (s : State) (l : LinkId) (summary : Byte) (r : QueueRecord) : State :=
  let s' := s.modPort l fun p => { p with queue := p.queue.tail, eventCount := p.eventCount + 1 }
  match r with
  | .cueEvent e => s'.send l summary kindEvent e.receiverAddress e.stepTag e.payload
  | .reply m => s'.send l summary kindReply false s.batch.currentTag m.payload

/-- Build and send the cyclic frame of a template (R92, R97); the controller then re-evaluates. -/
def State.sendCyclic (s : State) (l : LinkId) (summary : Byte) (t : BitVec 2) : State :=
  let b := s.buildTemplate l t
  ((b.1.setEventCount l 0).send l summary kindCyclic ((s.port l).template t).receiverAddress s.batch.currentTag
    b.2.flatten).reevaluate

/-- Build a template, send its head and keep its tail (R94, R97); the controller then re-evaluates. -/
def State.sendHead (s : State) (l : LinkId) (summary : Byte) (t : BitVec 2) : State :=
  let tmpl := (s.port l).template t
  let b := s.buildTemplate l t
  let kept : Snapshot :=
    { template := t
      payload := (b.2.drop tmpl.splitAt).flatten
      receiverAddress := tmpl.tailAddress
      stepTag := s.batch.currentTag }
  (((b.1.setEventCount l 0).modPort l fun p => { p with snapshot := some kept }).send l summary kindHead
    tmpl.receiverAddress s.batch.currentTag (b.2.take tmpl.splitAt).flatten).reevaluate

/-- Send a split snapshot as a tail frame (R95, R97). -/
def State.sendTail (s : State) (l : LinkId) (summary : Byte) (k : Snapshot) : State :=
  (s.setEventCount l 0).send l summary kindTail k.receiverAddress k.stepTag k.payload

/-! ### The slot rules -/

/-- The head of a link's queue, if an event-class frame may be sent now: available, and the consecutive-event count
below EVMAX (R92, R93). -/
def State.sendableHead (s : State) (l : LinkId) : Option QueueRecord :=
  if (s.port l).eventCount < (s.port l).settings.evMax then s.availableHead l else none

/-- An event-class frame if one may be sent, otherwise what the rule does instead (R91, R92). -/
def State.sendEventOr (s : State) (l : LinkId) (summary : Byte) (otherwise : State) : State :=
  match s.sendableHead l with
  | some r => s.sendRecord l summary r
  | none => otherwise

/-- The snapshot that is valid for a slot's template (R95). -/
def validSnapshot (snap : Option Snapshot) (t : BitVec 2) : Option Snapshot := snap.filter fun k => k.template = t

/-- Apply a slot's rule with the transmitter free. `snap` is the snapshot present at the open, which the state no
longer holds (R91). -/
def State.applyRule (s : State) (l : LinkId) (slot : Slot) (snap : Option Snapshot) : State :=
  match slot.rule with
  | .cyclic => s.sendCyclic l s.summary slot.template
  | .eventOrCyclic => s.sendEventOr l s.summary (s.sendCyclic l s.summary slot.template)
  | .eventOrIdle => s.sendEventOr l s.summary s
  | .head => s.sendHead l s.summary slot.template
  | .tail =>
    match validSnapshot snap slot.template with
    | some k => s.sendTail l s.summary k
    | none => s.modLinkFlags l fun f => { f with tailOrphan := true }
  | .tailOrEvent =>
    match validSnapshot snap slot.template with
    | some k => s.sendTail l s.summary k
    | none => s.sendEventOr l s.summary s
  | .idle => s

/-- The slot timer after a slot open: started with the slot's length under the INTERNAL trigger, not used under the
EXTERNAL (R89, R90). -/
def State.timerAtOpen (s : State) (p : Port) (slot : Slot) : Option Time :=
  match p.settings.trigger with
  | .internal => some (s.afterMicroseconds slot.length.toNat)
  | .external => none

/-- A slot opens (R91): the walk moves to it, its timer starts, the snapshot is dropped once the rule has had the use
of it; with a frame still on the line it is an overrun (R99). -/
def State.openSlot (s : State) (l : LinkId) (k : Fin 6) : State :=
  let p := s.port l
  let slot := p.plan[k.val]
  let opened := s.setPort l { p with walk := some k, slotTimer := s.timerAtOpen p slot, snapshot := none }
  if p.line.isSome then opened.modLinkFlags l fun f => { f with slotOverrun := true }
  else opened.applyRule l slot p.snapshot

/-! ### The walk -/

/-- The slots after a walk position, counting upward and wrapping; from slot 0 when the walk is at start (R89). -/
def walkOrder : Option (Fin 6) → List (Fin 6)
  | none => [0, 1, 2, 3, 4, 5]
  | some k => [k + 1, k + 2, k + 3, k + 4, k + 5, k]

/-- The next slot of nonzero length (R89, R90). -/
def Port.nextSlot (p : Port) : Option (Fin 6) := (walkOrder p.walk).find? fun k => p.plan[k.val].length ≠ 0

/-- Open the next slot, or stop the walk when no slot has a nonzero length: the timer stopped, the snapshot dropped, the
walk at start (R89, R90). -/
def State.openNext (s : State) (l : LinkId) : State :=
  match (s.port l).nextSlot with
  | some k => s.openSlot l k
  | none => s.modPort l fun p => { p with walk := none, slotTimer := none, snapshot := none }

/-- A plan write restarts a walk that had stopped: a RUNNING link under the INTERNAL trigger whose timer is stopped and
whose plan now has a slot of nonzero length (R88). -/
def State.restartWalk (s : State) (l : LinkId) : State :=
  let p := s.port l
  if s.running l && p.settings.trigger = .internal && p.slotTimer.isNone && p.nextSlot.isSome then s.openNext l else s

/-- Restart every walk that plan writes let go on (R88, R143). -/
def State.restartWalks (s : State) : State := LinkId.all.foldl State.restartWalk s

end Sys2Proof.Machine
end

