-- ==== Sys2Proof/Machine/Links.lean ====
section
/-! DEFINITION. What a transmitter sends (R118), batch abandonment (R33) and the link ports' states: entering and
leaving RUNNING (R102, R123), start-up (R122), signal loss (R125), link reset (R126), and what arriving symbols do
(R118, R122, R125). -/

namespace Sys2Proof.Machine

/-! ### The transmitter -/

/-- What a link's transmitter sends now (R118): nothing in OFF, idle fill in STARTING, HALTED and DOWN, and in RUNNING the
frame on the line, with idle fill between frames. -/
def State.transmits (s : State) (l : LinkId) : TransmitterOutput :=
  match (s.port l).state, (s.port l).line with
  | .off, _ => .quiet
  | .starting, _ => .idleFill
  | .running, some x => .frame x.bytes
  | .running, none => .idleFill
  | .halted, _ => .idleFill
  | .down, _ => .idleFill

/-! ### Abandonment -/

/-- Abandon the open batch: every pending value dropped, the batch CLOSED, its timer stopped (R33). -/
def State.abandonBatch (s : State) : State :=
  { s.mapCues (fun e => { e with pending := none }) with batch := { s.batch with isOpen := false, timer := none } }

/-- A cause other than the window abandons an open batch with STEP_TORN; with the batch CLOSED it does nothing (R33). -/
def State.tearBatch (s : State) : State :=
  if s.batch.isOpen then s.abandonBatch.modFlags fun f => { f with stepTorn := true } else s

/-- Expiry of the batch window abandons the open batch with STEP_TIMEOUT (R33, R36). -/
def State.timeOutBatch (s : State) : State := s.abandonBatch.modFlags fun f => { f with stepTimeout := true }

/-- A batch timer that has reached the batch window expires (R36). -/
def State.testBatchWindow (s : State) : State :=
  match s.batch.isOpen, s.batch.timer with
  | true, some n => if s.globals.batchWindow.toNat ≤ n then s.timeOutBatch else s
  | _, _ => s

/-- The batch timer's part of a tick (R36). -/
def State.tickBatch (s : State) : State :=
  if s.batch.isOpen then
    ({ s with batch := { s.batch with timer := s.batch.timer.map (· + 1) } }).testBatchWindow
  else s

/-! ### Entering and leaving RUNNING -/

/-- A link enters RUNNING: receive sequence unset, silence count 0, the scheduler at start; under the INTERNAL trigger
the first slot opens at once (R102, R123, R125). -/
def State.enterRunning (s : State) (l : LinkId) : State :=
  let entered := s.modPort l fun p =>
    { p with state := .running, receiveSeq := none, silence := 0, walk := none, slotTimer := none, eventCount := 0,
             snapshot := none, line := none }
  match (s.port l).settings.trigger with
  | .internal => entered.openNext l
  | .external => entered

/-- A link that was RUNNING stands in another state: the frame on the line ended, the scheduler stopped, the snapshot
dropped, the queue emptied; on Link D an open batch is torn; the controller re-evaluates (R123). A link in any other
state changes its state alone. The walk position of a link that leaves RUNNING is left as it stands until the next entry
to RUNNING or a reset sets it to at start: the model's choice, log entry 23. -/
def State.leaveFor (s : State) (l : LinkId) (st : LinkState) : State :=
  if s.running l then
    let left := s.modPort l fun p =>
      { p with state := st, slotTimer := none, snapshot := none, line := none, queue := [] }
    (if l = .d then left.tearBatch else left).reevaluate
  else s.modPort l fun p => { p with state := st }

/-- A link enters STARTING: start timer 0, idle-run mark clear (R122), no fill yet (log entry 5). -/
def State.enterStarting (s : State) (l : LinkId) : State :=
  (s.leaveFor l .starting).modPort l fun p => { p with startTimer := 0, idleRun := false, fill := .absent }

/-- The start timeout: DOWN, with START_TIMEOUT (R122). -/
def State.timeOutStart (s : State) (l : LinkId) : State :=
  (s.leaveFor l .down).modLinkFlags l fun f => { f with startTimeout := true }

/-- The signal is lost: DOWN, with SIGNAL_LOST (R125). -/
def State.loseSignal (s : State) (l : LinkId) : State :=
  (s.leaveFor l .down).modLinkFlags l fun f => { f with signalLost := true }

/-- A link is HALTED after a check failure: its silence count starts at 0 (R124, R125). -/
def State.halt (s : State) (l : LinkId) : State := (s.leaveFor l .halted).modPort l fun p => { p with silence := 0 }

/-! ### The port's part of a tick -/

/-- The fill behind a tick: fill that stands at the tick has the interval to the next tick before it, and an interval
that brought no symbol brought no fill. -/
def FillRun.afterTick (fill : FillRun) (heard : Bool) : FillRun :=
  match fill with
  | .absent => .absent
  | .begun => if heard then .whole else .absent
  | .whole => if heard then .whole else .absent

/-- The idle-run mark is set, and idle fill has come without a break throughout the interval since the previous tick
(R122): it stood at that tick, came on since, and nothing broke it. -/
def Port.filled (p : Port) : Bool := p.idleRun && p.fill = .whole && p.heard

/-- A tick in STARTING (R122). -/
def State.tickStarting (s : State) (l : LinkId) : State :=
  let p := s.port l
  let counted := s.modPort l fun p =>
    { p with startTimer := p.startTimer + 1, fill := p.fill.afterTick p.heard, heard := false }
  if p.filled then counted.enterRunning l
  else if Config.startLimit ≤ p.startTimer + 1 then counted.timeOutStart l
  else counted.modPort l fun p => { p with idleRun := true }

/-- A tick in RUNNING or HALTED (R125). -/
def State.tickSilence (s : State) (l : LinkId) : State :=
  let counted := s.modPort l fun p => { p with silence := p.silence + 1, heard := false }
  if Config.silenceLimit ≤ (s.port l).silence + 1 then counted.loseSignal l else counted

/-- A tick in DOWN: Link D whose signal has returned enters STARTING (R125). -/
def State.tickDown (s : State) (l : LinkId) : State :=
  let counted := s.modPort l fun p => { p with heard := false }
  if l = .d && (s.port l).heard then counted.enterStarting l else counted

/-- A port's part of a tick. -/
def State.tickPort (s : State) (l : LinkId) : State :=
  match (s.port l).state with
  | .off => s
  | .starting => s.tickStarting l
  | .running => s.tickSilence l
  | .halted => s.tickSilence l
  | .down => s.tickDown l

/-! ### Arriving symbols -/

/-- A symbol is valid (R118). -/
def symbolIsValid : LineSymbol → Bool
  | .data => true
  | .frameStart => true
  | .idleFill => true
  | .invalid => false
  | .fillBreak => false

/-- The fill behind a symbol: idle fill begins it or carries it on, anything else breaks it (R122). -/
def FillRun.afterSymbol (fill : FillRun) : LineSymbol → FillRun
  | .idleFill => if fill = .absent then .begun else fill
  | .data => .absent
  | .frameStart => .absent
  | .invalid => .absent
  | .fillBreak => .absent

/-- A symbol, or a break of the idle fill, arrives at a link's receiver (R118, R122, R125). An OFF link ignores its
line. -/
def State.symbolArrives (s : State) (l : LinkId) (y : LineSymbol) : State :=
  if (s.port l).state = .off then s
  else
    s.modPort l fun p =>
      { p with
        silence := if symbolIsValid y then 0 else p.silence
        heard := p.heard || symbolIsValid y
        idleRun := p.idleRun && (y = .idleFill || p.state ≠ .starting)
        fill := if p.state = .starting then p.fill.afterSymbol y else p.fill }

/-! ### Link reset and the LINK request's actions -/

/-- The routes of a link at its link reset: FIELD routes at their N with no peak and no converged mark, EVENT routes
armed (R65, R110, R111). -/
def Route.afterLinkReset (l : LinkId) (x : Route) : Route :=
  if x.record.link = l then
    match x.record.kind with
    | .field => Route.refreshSettled { x with held := x.record.neutral, peak := none, converged := false }
    | .event => { x with armed := true }
    | .off => x
  else x

/-- A port at its link reset: sequences and flags cleared, the scheduler at start, the queue empty (R126, R104). -/
def Port.afterLinkReset (p : Port) : Port :=
  { p with receiveSeq := none, transmitSeq := 0, flags := .clear, walk := none, slotTimer := none, eventCount := 0,
           snapshot := none, line := none, queue := [] }

/-- The state a link stands in after its link reset: STARTING for Link D, OFF for a board link (R126). -/
def stateAfterLinkReset (l : LinkId) : LinkState := if l = .d then .starting else .off

/-- A link reset (R126). -/
def State.linkReset (s : State) (l : LinkId) : State :=
  let left := if l = .d then s.enterStarting l else s.leaveFor l (stateAfterLinkReset l)
  ((left.modPort l Port.afterLinkReset).mapRoutes (Route.afterLinkReset l)).reevaluate

/-- A link can be started: OFF, HALTED or DOWN (R121). -/
def LinkState.startable : LinkState → Bool
  | .off => true
  | .starting => false
  | .running => false
  | .halted => true
  | .down => true

/-- Every slot length of a plan is 0 (R86, R121). -/
def planIsEmpty (p : Plan) : Bool := p.toArray.toList.all fun slot => slot.length = 0

/-- The START action's own work (R121). -/
def State.linkStart (s : State) (l : LinkId) : ResultCode × State :=
  if !(s.port l).state.startable then (.linkState, s)
  else if planIsEmpty (s.port l).plan then (.badValue, s)
  else (.ok, s.enterStarting l)

/-- The STOP action's own work (R121). -/
def State.linkStop (s : State) (l : LinkId) : ResultCode × State :=
  if l = .d then (.linkState, s) else (.ok, s.leaveFor l .off)

end Sys2Proof.Machine
end

