-- ==== Sys2Proof/Machine/Updates.lean ====
section
/-! DEFINITION. Cue entries over time (R7 to R10), commits (R4, R5, R39), UPDATE payloads (R22 to R24) and the batch
unit (R25 to R32). -/

namespace Sys2Proof.Machine

/-! ### Ageing and fade -/

/-- An entry becomes RESTED at its neutral. -/
def CueEntry.rest (e : CueEntry) : CueEntry := { e with value := e.config.neutral, state := .rested }

/-- The first test of R8: a LIVE entry whose age has reached its fresh limit becomes HELD. -/
def CueEntry.testFresh (e : CueEntry) : CueEntry :=
  if e.state = .live ∧ e.config.freshLimit.toNat ≤ e.age then { e with state := .held } else e

/-- Entry to FADING (R9): a SWITCH cue takes its neutral and rests, an ANALOG cue at its neutral rests, any other stays
FADING with its value unmoved. -/
def CueEntry.enterFading (e : CueEntry) : CueEntry :=
  match e.config.cls with
  | .switch => e.rest
  | .analog => if e.value = e.config.neutral then e.rest else { e with state := .fading }

/-- The second test of R8: a HELD entry whose age has reached the sum of its limits becomes FADING. -/
def CueEntry.testHold (e : CueEntry) : CueEntry :=
  if e.state = .held ∧ e.config.freshLimit.toNat + e.config.holdLimit.toNat ≤ e.age then e.enterFading else e

/-- One fade step of an ANALOG value toward its neutral (R10): the stepped value, or none when the step lands on the
neutral or would pass it. -/
def fadeStepped (value neutral : Int) (step : Nat) : Option Int :=
  if neutral < value then (if value - step ≤ neutral then none else some (value - step))
  else (if neutral ≤ value + step then none else some (value + step))

/-- A tick of a FADING ANALOG entry (R10). -/
def CueEntry.fade (e : CueEntry) : CueEntry :=
  match fadeStepped e.value.toInt e.config.neutral.toInt e.config.fadeStep.toNat with
  | some v => { e with value := BitVec.ofInt 16 v }
  | none => e.rest

/-- The age after a tick (R7). -/
def CueEntry.aged (e : CueEntry) : CueEntry := { e with age := min (e.age + 1) Config.ageLimit }

/-- A millisecond tick of one entry: it ages, then its state is tested or its fade moves on (R7, R8, R10, R11). -/
def CueEntry.tick (e : CueEntry) : CueEntry :=
  match e.state with
  | .empty => e
  | .live => e.aged.testFresh.testHold
  | .held => e.aged.testFresh.testHold
  | .fading => if e.config.cls = .analog then e.aged.fade else e.aged
  | .rested => e.aged

/-! ### Commits -/

/-- What a commit does to an entry it covers (R4). -/
def CueEntry.commit (e : CueEntry) (v tag : Word) : CueEntry :=
  { e with previous := e.value, value := v, stepTag := tag, age := 0, state := .live, pending := none }

/-- Write the entries of one commit. -/
def State.writeCommit (s : State) (tag : Word) (writes : List (CueId × Word)) : State :=
  writes.foldl (fun s w => s.modCue w.1 fun e => e.commit w.2 tag) s

/-- One commit: its entries written at one instant, then its notice handed to the route engine; a commit that covers no
cue is not made (R4, R5, R39). -/
def State.commit (s : State) (tag : Word) (writes : List (CueId × Word)) : State :=
  if writes.isEmpty then s else (s.writeCommit tag writes).takeNotice (writes.map Prod.fst)

/-! ### UPDATE payloads -/

/-- The pairs of an UPDATE payload, in their order (R22). -/
def pairsOf : List Byte → List (CueId × Word)
  | c :: h :: l :: rest => (cueOfByte c, h ++ l) :: pairsOf rest
  | _ => []

/-- Of several pairs that name one cue the later wins (R24). -/
def lastWins : List (CueId × Word) → List (CueId × Word)
  | [] => []
  | w :: rest => if (rest.map Prod.fst).contains w.1 then lastWins rest else w :: lastWins rest

/-- A pair names a cue that the link owns (R23). -/
def State.owns (s : State) (l : LinkId) (w : CueId × Word) : Bool := (s.cue w.1).config.owner = some l

/-- The accepted cues of an UPDATE payload, each once with its value (R23, R24). -/
def State.acceptedCues (s : State) (l : LinkId) (payload : List Byte) : List (CueId × Word) :=
  lastWins ((pairsOf payload).filter (s.owns l))

/-- A pair that names a cue the link does not own sets OWNER_MISMATCH (R23). -/
def State.flagOwners (s : State) (l : LinkId) (payload : List Byte) : State :=
  if (pairsOf payload).all (s.owns l) then s else s.modLinkFlags l fun f => { f with ownerMismatch := true }

/-! ### The batch unit -/

/-- Accepted cues become pending (R6). -/
def State.makePending (s : State) (writes : List (CueId × Word)) : State :=
  writes.foldl (fun s w => s.modCue w.1 fun e => { e with pending := some w.2 }) s

/-- The pending values of the table, in the order of the cues. -/
def State.pendingWrites (s : State) : List (CueId × Word) :=
  (List.finRange 256).filterMap fun c => (s.cue c).pending.map fun v => (c, v)

/-- A batch opens with a frame's step tag, its timer at 0 (R28). -/
def State.openBatch (s : State) (tag : Word) (writes : List (CueId × Word)) : State :=
  ({ s with batch := { s.batch with isOpen := true, openTag := tag, timer := some 0 } }).makePending writes

/-- The closing of the open batch: everything pending is committed under the open step tag, which becomes the current
one (R30). -/
def State.closeBatch (s : State) : State :=
  ({ s with batch := { s.batch with isOpen := false, timer := none, currentTag := s.batch.openTag } }).commit
    s.batch.openTag s.pendingWrites

/-- A self-contained batch: one commit under the frame's own tag (R31). -/
def State.selfContained (s : State) (tag : Word) (writes : List (CueId × Word)) : State :=
  ({ s with batch := { isOpen := false, openTag := tag, timer := none, currentTag := tag } }).commit tag writes

/-- An accepted UPDATE frame on Link D acts on the batch unit by its control bits and the batch state (R27 to R32). -/
def State.updateLinkD (s : State) (opens closes : Bool) (tag : Word) (writes : List (CueId × Word)) : State :=
  match opens, closes with
  | true, true => s.tearBatch.selfContained tag writes
  | true, false => s.tearBatch.openBatch tag writes
  | false, true => if s.batch.isOpen then (s.makePending writes).closeBatch else s.commit s.batch.currentTag writes
  | false, false => if s.batch.isOpen then s.makePending writes else s.commit s.batch.currentTag writes

/-- An accepted UPDATE frame: its pairs checked, its accepted cues committed or held pending (R22 to R32). -/
def State.takeUpdate (s : State) (l : LinkId) (f : Frame) : State :=
  let flagged := s.flagOwners l f.payload
  let writes := s.acceptedCues l f.payload
  if l = .d then flagged.updateLinkD f.opens f.closes f.stepTag writes
  else flagged.commit s.batch.currentTag writes

end Sys2Proof.Machine
end

