-- ==== Sys2Proof/Machine/Records.lean ====
section
/-! DEFINITION. Writing and reading one management record of each table: the checks in their order and the effect of an
accepted record (R17 to R20, R42 to R47, R84, R85, R87, R88, R101, R120, R37, R108, R136). A check that fails answers
its refusal code and writes nothing. -/

namespace Sys2Proof.Machine

/-! ### CUE -/

/-- A route whose source A changes class: a FIELD route starts again from N without peak or converged mark, an EVENT
route is armed (R47, R70, R110, R111). -/
def Route.afterClassChange (c : CueId) (x : Route) : Route :=
  if cueOfByte x.record.sourceA = c then
    match x.record.kind with
    | .field => Route.refreshSettled { x with held := x.record.neutral, peak := none, converged := false }
    | .event => { x with armed := true }
    | .off => x
  else x

/-- An entry under a new configuration: emptied when its class or owner changes (R18), its state kept otherwise
(R19). -/
def CueEntry.configure (e : CueEntry) (c : CueConfig) : CueEntry :=
  if c.cls = e.config.cls ∧ c.owner = e.config.owner then { e with config := c }
  else
    { e with config := c, value := c.neutral, previous := c.neutral, pending := none, stepTag := 0, age := 0,
             state := .empty }

/-- The effect of an accepted CUE record (R18, R19, R47). -/
def State.acceptCue (s : State) (i : CueId) (c : CueConfig) : State :=
  let written := s.modCue i fun e => e.configure c
  if c.cls = (s.cue i).config.cls then written
  else (written.mapRoutes (Route.afterClassChange i)).reevaluate

/-- Write a CUE record (R17 to R19). -/
def State.writeCue (s : State) (i : CueId) (bs : List Byte) : Except ResultCode State :=
  match CueConfig.ofBytes bs with
  | none => .error .badValue
  | some c => if c.inRange then .ok (s.acceptCue i c) else .error .badValue

/-! ### ROUTE -/

/-- The checks of R43 on a record of kind FIELD or EVENT, with the class of source A as it stands. -/
def RouteRecord.consistent (r : RouteRecord) (cls : CueClass) : Bool :=
  r.shift.toNat ≤ 15 && r.deadband.toNat ≤ 4095 && r.slew.toNat ≤ 32767 && r.freezeSlew.toNat ≤ 32767
    && r.lo.toInt ≤ r.hi.toInt
    && r.lo.toInt ≤ r.neutral.toInt && r.neutral.toInt ≤ r.hi.toInt
    && (r.slew = 0 || r.freezeSlew.toNat ≤ r.slew.toNat)
    && !((r.combine = .sum || r.combine = .diff) && !r.sourceBPresent)
    && !((r.combine = .pass || r.combine = .peak) && r.sourceBPresent)
    && !(r.kind = .event && r.combine = .peak)
    && !(cls = .switch && (r.combine ≠ .pass || r.substitutePresent))

/-- Another FIELD route holds the position of a record (R44). -/
def State.positionTaken (s : State) (id : RouteId) (r : RouteRecord) : Bool :=
  allRoutes.any fun k => k ≠ id && (s.route k).record.fills r.link r.template r.position.toNat

/-- The checks of R42 from the third on, in their order: the refusal, or none. -/
def State.routeRefusal (s : State) (id : RouteId) (r : RouteRecord) : Option ResultCode :=
  if r.kind = .off then none
  else if !r.consistent (s.sourceClass r) then some .badValue
  else if r.kind = .event then (if r.hysteresis.toNat ≤ 32767 then none else some .badValue)
  else if ((s.port r.link).template r.template).fields ≤ r.position.toNat then some .badIndex
  else if s.positionTaken id r then some .positionTaken
  else none

/-- Two records are FIELD on the same link, template and position (R45). -/
def RouteRecord.samePlace (old new : RouteRecord) : Bool :=
  old.kind = .field && new.kind = .field && old.link = new.link && old.template = new.template
    && old.position = new.position

/-- A held value moved to the nearer end of a record's range, if it lies outside it (R45). -/
def RouteRecord.nearest (r : RouteRecord) (held : Word) : Word :=
  if held.toInt < r.lo.toInt then r.lo else if r.hi.toInt < held.toInt then r.hi else held

/-- A route after an accepted write (R45, R110, R111). -/
def Route.rewritten (x : Route) (r : RouteRecord) : Route :=
  Route.refreshSettled
    { record := r
      held := if x.record.samePlace r then r.nearest x.held else r.neutral
      peak := none
      armed := true
      settled := false
      converged := false }

/-- Write a ROUTE record (R42 to R45). -/
def State.writeRoute (s : State) (id : RouteId) (bs : List Byte) : Except ResultCode State :=
  if s.management.protects id.val then .error .isProtected
  else
    match RouteRecord.ofBytes bs with
    | none => .error .badValue
    | some r =>
      match s.routeRefusal id r with
      | some code => .error code
      | none => .ok (s.setRoute id ((s.route id).rewritten r)).reevaluate

/-! ### TEMPLATE -/

/-- A split point lies in 1 to n − 1 when it is present (R84, check 1). -/
def Template.lawful (t : Template) : Bool :=
  t.fields ≤ 24
    && match t.split with
       | none => true
       | some k => 1 ≤ k.toNat && k.toNat < t.fields

/-- A rule that needs its template to be split (R84, R87). -/
def SlotRule.needsSplit : SlotRule → Bool
  | .cyclic => false
  | .eventOrCyclic => false
  | .eventOrIdle => false
  | .head => true
  | .tail => true
  | .tailOrEvent => true
  | .idle => false

/-- The slots of nonzero length of a plan. -/
def openedSlots (p : Plan) : List Slot := p.toArray.toList.filter fun slot => slot.length ≠ 0

/-- The checks of R84 in their order: the refusal, or none. -/
def State.templateRefusal (s : State) (l : LinkId) (t : BitVec 2) (rec : Template) : Option ResultCode :=
  if !rec.lawful then some .badValue
  else if rec.split.isNone
      && (openedSlots (s.port l).plan).any fun slot => slot.rule.needsSplit && slot.template = t then
    some .badValue
  else if s.routes.toArray.toList.any fun x =>
      x.record.kind = .field && x.record.link = l && x.record.template = t
        && rec.fields ≤ x.record.position.toNat then
    some .positionTaken
  else if (openedSlots (s.port l).plan).any fun slot =>
      slot.rule.namesTemplate && slot.template = t
        && slot.length.toNat < ruleMinimum l (s.port l).settings.rate slot.rule rec then
    some .slotTooShort
  else none

/-- Replace one template of a link. -/
def Port.setTemplate (p : Port) (t : BitVec 2) (rec : Template) : Port :=
  { p with templates := p.templates.set t.toNat rec t.isLt }

/-- Write a TEMPLATE record (R84, R85). -/
def State.writeTemplate (s : State) (l : LinkId) (t : BitVec 2) (bs : List Byte) : Except ResultCode State :=
  match s.templateRefusal l t (Template.ofBytes bs) with
  | some code => .error code
  | none => .ok (s.modPort l fun p => p.setTemplate t (Template.ofBytes bs)).reevaluate

/-! ### PLAN -/

/-- Checks 3 and 4 of R87: the refusal, or none. -/
def State.planRefusal (s : State) (l : LinkId) (p : Plan) : Option ResultCode :=
  if (openedSlots p).any fun slot => slot.rule.needsSplit && ((s.port l).template slot.template).split.isNone then
    some .badValue
  else if !planFits l (s.port l).settings.rate (s.port l).template p then some .slotTooShort
  else none

/-- Write a PLAN record (R87, R88). A walk it lets go on is restarted by `State.restartWalks`, once all the records of
its request are written (R143). -/
def State.writePlan (s : State) (l : LinkId) (bs : List Byte) : Except ResultCode State :=
  match planOfBytes bs with
  | .error code => .error code
  | .ok p =>
    match s.planRefusal l p with
    | some code => .error code
    | none => .ok (s.modPort l fun q => { q with plan := p }).reevaluate

/-! ### LINK -/

/-- Checks 2 to 4 of R120 and R101: the refusal, or none. Check 3 is taken as its table has it on Link D too, so a FILL whose
write of Link D's record falls after that link has gone DOWN may change its byte order, though R120's text concludes that
it keeps its reset value: the model's choice, log entry 25. -/
def State.linkRefusal (s : State) (l : LinkId) (r : LinkSettings) : Option ResultCode :=
  let p := s.port l
  if l = .d && (r.trigger ≠ .internal || r.haltOnCheck || r.rate ≠ strappedRate s.rate1 s.rate0) then some .badValue
  else if (r.rate ≠ p.settings.rate || r.order ≠ p.settings.order || r.trigger ≠ p.settings.trigger)
      && !p.state.startable then
    some .linkState
  else if r.rate ≠ p.settings.rate && !planFits l r.rate p.template p.plan then some .slotTooShort
  else none

/-- Write a LINK record (R120). -/
def State.writeLink (s : State) (l : LinkId) (bs : List Byte) : Except ResultCode State :=
  match LinkSettings.ofBytes bs with
  | none => .error .badValue
  | some r =>
    match s.linkRefusal l r with
    | some code => .error code
    | none => .ok (s.modPort l fun p => { p with settings := r })

/-! ### GLOBAL -/

/-- Write the GLOBAL record (R37, R108, R136). -/
def State.writeGlobal (s : State) (bs : List Byte) : Except ResultCode State :=
  if (GlobalSettings.ofBytes bs).inRange then .ok { s with globals := .ofBytes bs } else .error .badValue

/-! ### A table by its index -/

/-- The link of a template table index: link number × 4 + template number (chapter 5.1). -/
def linkOfIndex (i : Nat) : LinkId := (LinkId.ofNumber i).getD .d

/-- The template number of a template table index. -/
def templateOfIndex (i : Nat) : BitVec 2 := BitVec.ofNat 2 i

/-- Write one record at an index of a table (R143, R146). An index the table does not have is refused as out of
range; neither the cursor nor a FILL reaches one (R141, R145). -/
def State.writeRecord (s : State) (t : TableId) (i : Nat) (bs : List Byte) : Except ResultCode State :=
  if h : i < t.size then
    match t, h with
    | .cue, h => s.writeCue ⟨i, h⟩ bs
    | .route, h => s.writeRoute ⟨i, h⟩ bs
    | .template, _ => s.writeTemplate (linkOfIndex (i / 4)) (templateOfIndex i) bs
    | .plan, _ => s.writePlan (linkOfIndex i) bs
    | .link, _ => s.writeLink (linkOfIndex i) bs
    | .global, _ => s.writeGlobal bs
  else .error .badIndex

/-- Read one record at an index of a table (R20, R46, R83, R120, R144). -/
def State.readRecord (s : State) (t : TableId) (i : Nat) : List Byte :=
  if h : i < t.size then
    match t, h with
    | .cue, h => (s.cue ⟨i, h⟩).toBytes
    | .route, h => (s.route ⟨i, h⟩).record.toBytes
    | .template, _ => ((s.port (linkOfIndex (i / 4))).template (templateOfIndex i)).toBytes
    | .plan, _ => planBytes (s.port (linkOfIndex i)).plan
    | .link, _ => (s.port (linkOfIndex i)).settings.toBytes
    | .global, _ => s.globals.toBytes
  else []

end Sys2Proof.Machine
end

