-- ==== Sys2Proof/Machine/Management.lean ====
section
/-! DEFINITION. The management unit (chapters 8 to 10): the common steps of R137, then each request's own work. Every
`take…` function is a request whole, from the room check to its reply; `State.handleRequest` reads a REQUEST payload and
calls the one it names. -/

namespace Sys2Proof.Machine

/-! ### The common steps -/

/-- What the common steps need to know of a request: whether the arm latch guards it (R140), whether it keeps the
partial-record buffer (R142), whether it sets the reset arm (R151), whether its refusals carry the cursor report
(R139). -/
structure RequestTraits where
  guarded : Bool
  keepsPartial : Bool
  setsResetArm : Bool
  reportsCursor : Bool
deriving DecidableEq, Repr

/-- An unguarded request with nothing special. -/
def plainRequest : RequestTraits := { guarded := false, keepsPartial := false, setsResetArm := false, reportsCursor := false }

/-- A guarded request with nothing special. -/
def guardedRequest : RequestTraits := { plainRequest with guarded := true }

/-- Every request acts on the reset arm: RESET_ARM sets it, every other leaves it clear (R151). -/
def State.actOnResetArm (s : State) (t : RequestTraits) : State :=
  s.modManagement fun m => { m with resetArm := t.setsResetArm }

/-- Empty the partial-record buffer, with PARTIAL_DISCARDED if it held bytes (R142). -/
def State.discardPartial (s : State) : State :=
  if s.management.partialRecord = [] then s
  else (s.modManagement fun m => { m with partialRecord := [] }).modFlags fun f => { f with partialDiscarded := true }

/-- A guarded request clears the arm latch when it completes, is refused or is lost (R140). -/
def State.dropLatch (s : State) (t : RequestTraits) : State :=
  if t.guarded then s.modManagement fun m => { m with armLatch := false } else s

/-- A request that finds Link D's queue full is lost (R138). -/
def State.loseRequest (s : State) (t : RequestTraits) : State :=
  ((s.dropLatch t).discardPartial).modFlags fun f => { f with replyLost := true }

/-- The cursor report (R139). -/
def State.cursorReport (s : State) : List Byte :=
  let m := s.management
  [m.cursorTable.code] ++ natBytes m.cursorIndex
    ++ [BitVec.ofNat 8 (m.partialRecord.length + if m.cursorMode = .write then 128 else 0)]

/-- Answer a request with count 0 and no data. -/
def State.answer (s : State) (tag code : Byte) (r : ResultCode) : State := s.offerReply tag code r 0 []

/-- Answer a request with count 0 and, where it reports it, the cursor. -/
def State.answerWith (s : State) (t : RequestTraits) (tag code : Byte) (r : ResultCode) : State :=
  s.offerReply tag code r 0 (if t.reportsCursor then s.cursorReport else [])

/-- The steps 1 to 5 of R137, then the request's own work; the reset arm is acted on first, as it is by every request
whatever becomes of it (R151). Room check, work and reply are one step, so at level 15 a CUE_EVENT that comes together with
the request is taken before all of it, which loses the request, or after all of it, which drops the CUE_EVENT (R74, R81,
R138): DESIGN CHOICE, log entry 27. -/
def State.takeRequest (s : State) (t : RequestTraits) (tag code : Byte) (work : State → State) : State :=
  let s := s.actOnResetArm t
  if Config.queueCapacity ≤ s.level .d then s.loseRequest t
  else
    let s := if t.keepsPartial then s else s.discardPartial
    if t.guarded && !s.management.armLatch then (s.discardPartial).answerWith t tag code .notArmed
    else if t.guarded && s.busy then (s.dropLatch t).answerWith t tag code .busy
    else work s

/-! ### ARM, DISARM, RESET_ARM, unknown and short requests -/

/-- ARM (R140, R142). -/
def State.takeArm (s : State) (tag : Byte) (_args : List Byte) : State :=
  s.takeRequest { plainRequest with keepsPartial := true } tag 0x01 fun s =>
    (s.modManagement fun m => { m with armLatch := true }).answer tag 0x01 .ok

/-- DISARM (R140). -/
def State.takeDisarm (s : State) (tag : Byte) (_args : List Byte) : State :=
  s.takeRequest plainRequest tag 0x02 fun s =>
    (s.modManagement fun m => { m with armLatch := false }).answer tag 0x02 .ok

/-- RESET_ARM (R151). -/
def State.takeResetArm (s : State) (tag : Byte) (_args : List Byte) : State :=
  s.takeRequest { plainRequest with setsResetArm := true } tag 0x10 fun s => s.answer tag 0x10 .ok

/-- A request with an unknown code (R137, step 3). -/
def State.takeUnknown (s : State) (tag code : Byte) (_args : List Byte) : State :=
  s.takeRequest plainRequest tag code fun s => s.answer tag code .unknownRequest

/-- A REQUEST payload of fewer than two bytes: code 0, and tag 0 when no tag byte is present (R137). -/
def State.takeShort (s : State) (tag : Option Byte) : State :=
  s.takeRequest plainRequest (tag.getD 0) 0x00 fun s => s.answer (tag.getD 0) 0x00 .badValue

/-! ### STATUS and CLEAR -/

/-- The management byte of the STATUS record (R134). -/
def State.managementByte (s : State) (resetArm : Bool) : Byte :=
  (0 : BitVec 3) ++ BitVec.ofBool (s.management.side = .high) ++ BitVec.ofBool s.management.limitLock
    ++ BitVec.ofBool s.busy ++ BitVec.ofBool resetArm ++ BitVec.ofBool s.management.armLatch

/-- The six bytes of a link in the STATUS record (R134). -/
def State.linkStatus (s : State) (l : LinkId) : List Byte :=
  [(s.port l).state.code] ++ wordBytes (s.port l).flags.toWord
    ++ [(BitVec.ofBool (s.pressure l) ++ (0 : BitVec 2) ++ BitVec.ofNat 5 (s.level l) : Byte)]
    ++ natBytes (s.staleCount l)

/-- The 38-byte STATUS record, with the reset arm as it stood at the request's arrival (R134, R154). -/
def State.statusRecord (s : State) (resetArm : Bool) : List Byte :=
  [s.freeze.state.code.setWidth 8, byteOfBit s.batch.isOpen]
    ++ wordBytes s.batch.openTag ++ wordBytes s.batch.currentTag
    ++ [s.managementByte resetArm]
    ++ natBytes s.management.fillNext ++ natBytes s.management.boundary
    ++ [s.flags.toByte]
    ++ natBytes s.lastClipped.val
    ++ LinkId.all.flatMap s.linkStatus

/-- STATUS (R154). -/
def State.takeStatus (s : State) (tag : Byte) (_args : List Byte) : State :=
  let resetArm := s.management.resetArm
  s.takeRequest plainRequest tag 0x03 fun s => s.offerReply tag 0x03 .ok 1 (s.statusRecord resetArm)

/-- Clear every sticky flag that a nine-byte selection names (R155). -/
def State.clearFlags (s : State) (sel : List Byte) : State :=
  LinkId.all.foldl (fun s l => s.modLinkFlags l fun f => f.clearBy (wordAt sel (1 + 2 * l.number)))
    (s.modFlags fun f => f.clearBy (byteAt sel 0))

/-- CLEAR (R155). -/
def State.takeClear (s : State) (tag : Byte) (args : List Byte) : State :=
  s.takeRequest plainRequest tag 0x0D fun s =>
    if args.length < 9 then s.answer tag 0x0D .badValue else (s.clearFlags args).answer tag 0x0D .ok

/-! ### CURSOR, PUT and GET -/

/-- CURSOR's traits: its refusals carry the cursor report (R139). -/
def cursorRequest : RequestTraits := { plainRequest with reportsCursor := true }

/-- CURSOR's own work: the refusal, or the new place (R141). -/
def State.moveCursor (s : State) (args : List Byte) : ResultCode × State :=
  if args.length < 3 then (.badValue, s)
  else
    match TableId.ofCode (byteAt args 0) with
    | none => (.badValue, s)
    | some t =>
      if t.size ≤ (wordAt args 1).toNat then (.badIndex, s)
      else (.ok, s.modManagement fun m => { m with cursorTable := t, cursorIndex := (wordAt args 1).toNat })

/-- CURSOR (R141). -/
def State.takeCursor (s : State) (tag : Byte) (args : List Byte) : State :=
  s.takeRequest cursorRequest tag 0x04 fun s =>
    let r := s.moveCursor args
    r.2.answerWith cursorRequest tag 0x04 r.1

/-- The cursor advances by one index, from the last to index 0 (R141). -/
def Management.advance (m : Management) : Management :=
  { m with cursorIndex := if m.cursorIndex + 1 < m.cursorTable.size then m.cursorIndex + 1 else 0 }

/-- What a PUT has done: its result, the records it wrote, the state it leaves. -/
structure PutOutcome where
  result : ResultCode
  written : Nat
  state : State

/-- Take record bytes into the partial-record buffer and write each whole record at the cursor (R143). `fuel` bounds
the records; the bytes' own number suffices, as a record has at least one byte. -/
def State.putBytes (s : State) (written : Nat) : Nat → List Byte → PutOutcome
  | 0, bytes => ⟨.ok, written, s.modManagement fun m => { m with partialRecord := bytes }⟩
  | fuel + 1, bytes =>
    let m := s.management
    let n := m.cursorTable.recordBytes
    if bytes.length < n then ⟨.ok, written, s.modManagement fun m => { m with partialRecord := bytes }⟩
    else
      match s.writeRecord m.cursorTable m.cursorIndex (bytes.take n) with
      | .error code => ⟨code, written, s.modManagement fun m => { m with partialRecord := [] }⟩
      | .ok s' => (s'.modManagement Management.advance).putBytes (written + 1) fuel (bytes.drop n)

/-- PUT's traits (R139, R140, R142). -/
def putRequest : RequestTraits :=
  { guarded := true, keepsPartial := true, setsResetArm := false, reportsCursor := true }

/-- PUT's own work once it has passed steps 1 to 5: mode WRITE, the records, the latch cleared; then the walks that its
PLAN records let go on, and the reply (R88, R140, R141, R143). -/
def State.putWork (s : State) (tag : Byte) (args : List Byte) : State :=
  let s := s.modManagement fun m => { m with armLatch := false, cursorMode := .write }
  let bytes := s.management.partialRecord ++ args
  let o := s.putBytes 0 bytes.length bytes
  let s' := if s.management.cursorTable = .plan then o.state.restartWalks else o.state
  s'.offerReply tag 0x05 o.result o.written s'.cursorReport

/-- PUT (R143). -/
def State.takePut (s : State) (tag : Byte) (args : List Byte) : State :=
  s.takeRequest putRequest tag 0x05 fun s => s.putWork tag args

/-- Read a run of records from the cursor, which advances and wraps (R144). -/
def State.getRecords (s : State) : Nat → State × List Byte
  | 0 => (s, [])
  | n + 1 =>
    let bytes := s.readRecord s.management.cursorTable s.management.cursorIndex
    let r := (s.modManagement Management.advance).getRecords n
    (r.1, bytes ++ r.2)

/-- GET's own work (R144). A GET refused with BAD_VALUE leaves the cursor mode as it stands: the model's choice, log entry
24. -/
def State.getWork (s : State) (tag : Byte) (args : List Byte) : State :=
  if (byteAt args 0).toNat = 0 then s.answer tag 0x06 .badValue
  else
    let n := min (byteAt args 0).toNat s.management.cursorTable.recordsPerGet
    let r := s.getRecords n
    (r.1.modManagement fun m => { m with cursorMode := .read }).offerReply tag 0x06 .ok n r.2

/-- GET (R144; log entry 24). -/
def State.takeGet (s : State) (tag : Byte) (args : List Byte) : State :=
  s.takeRequest plainRequest tag 0x06 fun s => if args.length < 1 then s.answer tag 0x06 .badValue else s.getWork tag args

/-! ### FILL -/

/-- An index of a run is protected (R145). -/
def Management.protectsRun (m : Management) (first count : Nat) : Bool :=
  (List.range count).any fun k => m.protects (first + k)

/-- The checks of a FILL's acceptance in their order: the refusal, or its table (R145). -/
def State.fillRefusal (s : State) (args : List Byte) : Except ResultCode TableId :=
  if args.length < 5 then .error .badValue
  else
    match TableId.ofCode (byteAt args 0) with
    | none => .error .badValue
    | some t =>
      let first := (wordAt args 1).toNat
      let count := (wordAt args 3).toNat
      if args.length < 5 + t.recordBytes then .error .badValue
      else if count = 0 then .error .badValue
      else if t.size ≤ first || t.size < first + count then .error .badIndex
      else if t = .route && s.management.protectsRun first count then .error .isProtected
      else .ok t

/-- FILL's own work: refused at its acceptance, or in flight with its first write 2 µs on; the latch is cleared either
way (R140, R145). -/
def State.fillWork (s : State) (tag : Byte) (args : List Byte) : State :=
  let s := s.modManagement fun m => { m with armLatch := false }
  match s.fillRefusal args with
  | .error code => s.answer tag 0x07 code
  | .ok t =>
    let first := (wordAt args 1).toNat
    s.modManagement fun m =>
      { m with
        fillNext := first
        fill := some
          { tag := tag, table := t, last := first + (wordAt args 3).toNat - 1,
            record := (args.drop 5).take t.recordBytes, written := 0, due := s.now + Config.fillPace } }

/-- FILL (R145). -/
def State.takeFill (s : State) (tag : Byte) (args : List Byte) : State :=
  s.takeRequest guardedRequest tag 0x07 fun s => s.fillWork tag args

/-- The FILL ends: busy idle, and its reply offered (R146). Its progress but for the next index is dropped: the model's
choice, log entry 26. -/
def State.endFill (s : State) (job : FillJob) (r : ResultCode) (written : Nat) : State :=
  (s.modManagement fun m => { m with fill := none }).offerReply job.tag 0x07 r (min written 255)
    (natBytes written ++ natBytes s.management.fillNext)

/-- One write of the FILL in flight has been accepted: the next index advances, and the run ends after its last
(R146). -/
def State.advanceFill (s : State) (job : FillJob) : State :=
  let s' := s.modManagement fun m => { m with fillNext := m.fillNext + 1 }
  if job.last ≤ s.management.fillNext then s'.endFill job .ok (job.written + 1)
  else
    s'.modManagement fun m =>
      { m with fill := some { job with written := job.written + 1, due := job.due + Config.fillPace } }

/-- The next write of the FILL in flight (R146). -/
def State.fillStep (s : State) (job : FillJob) : State :=
  match s.writeRecord job.table s.management.fillNext job.record with
  | .error code => s.endFill job code job.written
  | .ok s' => (if job.table = .plan then s'.restartWalks else s').advanceFill job

/-! ### OVERRIDE, RELEASE, FREEZE, RESUME -/

/-- OVERRIDE (R15). -/
def State.takeOverride (s : State) (tag : Byte) (args : List Byte) : State :=
  s.takeRequest plainRequest tag 0x08 fun s =>
    if args.length < 3 then s.answer tag 0x08 .badValue
    else (s.modCue (cueOfByte (byteAt args 0)) fun e => { e with override := some (wordAt args 1) }).answer tag 0x08 .ok

/-- RELEASE (R16). -/
def State.takeRelease (s : State) (tag : Byte) (args : List Byte) : State :=
  s.takeRequest plainRequest tag 0x09 fun s =>
    if args.length < 1 then s.answer tag 0x09 .badValue
    else (s.modCue (cueOfByte (byteAt args 0)) fun e => { e with override := none }).answer tag 0x09 .ok

/-- FREEZE (R106). -/
def State.takeFreeze (s : State) (tag : Byte) (_args : List Byte) : State :=
  s.takeRequest plainRequest tag 0x0A fun s => s.enterFreezing.answer tag 0x0A .ok

/-- RESUME (R107). -/
def State.takeResume (s : State) (tag : Byte) (_args : List Byte) : State :=
  s.takeRequest plainRequest tag 0x0B fun s => s.enterResuming.answer tag 0x0B .ok

/-! ### LINK -/

/-- A LINK request on the link it names, refused with BAD_INDEX when its number names none (R139). -/
def State.onNamedLink (s : State) (tag linkNumber : Byte) (work : State → LinkId → ResultCode × State) : State :=
  s.takeRequest plainRequest tag 0x0C fun s =>
    match LinkId.ofNumber linkNumber.toNat with
    | none => s.answer tag 0x0C .badIndex
    | some l => (work s l).2.answer tag 0x0C (work s l).1

/-- LINK START (R121). -/
def State.takeLinkStart (s : State) (tag linkNumber : Byte) : State := s.onNamedLink tag linkNumber State.linkStart

/-- LINK STOP (R121). -/
def State.takeLinkStop (s : State) (tag linkNumber : Byte) : State := s.onNamedLink tag linkNumber State.linkStop

/-- LINK RESET (R126). -/
def State.takeLinkReset (s : State) (tag linkNumber : Byte) : State :=
  s.onNamedLink tag linkNumber fun s l => (.ok, s.linkReset l)

/-- LINK with an action above 2 (R139). -/
def State.takeLinkBadAction (s : State) (tag linkNumber : Byte) : State :=
  s.onNamedLink tag linkNumber fun s _ => (.badValue, s)

/-- A LINK request by its argument bytes (R133, R139). -/
def State.takeLink (s : State) (tag : Byte) (args : List Byte) : State :=
  if args.length < 2 then s.takeRequest plainRequest tag 0x0C fun s => s.answer tag 0x0C .badValue
  else
    match (byteAt args 1).toNat with
    | 0 => s.takeLinkStart tag (byteAt args 0)
    | 1 => s.takeLinkStop tag (byteAt args 0)
    | 2 => s.takeLinkReset tag (byteAt args 0)
    | _ => s.takeLinkBadAction tag (byteAt args 0)

/-! ### PROTECT, LOCK, RESET -/

/-- PROTECT's own work: the refusal, or the new range (R149). -/
def State.protectRange (s : State) (args : List Byte) : ResultCode × State :=
  if args.length < 3 then (.badValue, s)
  else if s.management.limitLock then (.locked, s)
  else if 384 < (wordAt args 0).toNat || 1 < (byteAt args 2).toNat then (.badValue, s)
  else
    (.ok, s.modManagement fun m =>
      { m with boundary := (wordAt args 0).toNat, side := if byteAt args 2 = 0 then .low else .high })

/-- PROTECT (R149). -/
def State.takeProtect (s : State) (tag : Byte) (args : List Byte) : State :=
  s.takeRequest guardedRequest tag 0x0E fun s =>
    let r := (s.dropLatch guardedRequest).protectRange args
    r.2.answer tag 0x0E r.1

/-- LOCK (R150). -/
def State.takeLock (s : State) (tag : Byte) (_args : List Byte) : State :=
  s.takeRequest guardedRequest tag 0x0F fun s =>
    let s := s.dropLatch guardedRequest
    if s.management.limitLock then s.answer tag 0x0F .locked
    else (s.modManagement fun m => { m with limitLock := true }).answer tag 0x0F .ok

/-- The part after a part reset: every block at its reset values, the straps as last read, the time bases running on,
the waiting commands kept (R152). -/
def State.partReset (s : State) : State where
  now := s.now
  nextTick := s.nextTick
  rate1 := s.rate1
  rate0 := s.rate0
  cues := Vector.replicate 256 .afterReset
  batch := .afterReset
  routes := Vector.replicate 384 .afterReset
  ports := portsAfterReset s.rate1 s.rate0
  freeze := .afterReset
  globals := .afterReset
  management := .afterReset
  flags := .clear
  lastClipped := 0
  pending := s.pending

/-- RESET (R151): the reset arm is read as it stood at the arrival. -/
def State.takeReset (s : State) (tag : Byte) (_args : List Byte) : State :=
  let resetArm := s.management.resetArm
  s.takeRequest plainRequest tag 0x11 fun s =>
    if !resetArm then s.answer tag 0x11 .notArmed
    else if s.management.limitLock then s.answer tag 0x11 .locked
    else s.partReset

/-! ### A REQUEST payload -/

/-- Take a request by its code (R133, R137). -/
def State.dispatchRequest (s : State) (tag code : Byte) (args : List Byte) : State :=
  match code.toNat with
  | 1 => s.takeArm tag args
  | 2 => s.takeDisarm tag args
  | 3 => s.takeStatus tag args
  | 4 => s.takeCursor tag args
  | 5 => s.takePut tag args
  | 6 => s.takeGet tag args
  | 7 => s.takeFill tag args
  | 8 => s.takeOverride tag args
  | 9 => s.takeRelease tag args
  | 10 => s.takeFreeze tag args
  | 11 => s.takeResume tag args
  | 12 => s.takeLink tag args
  | 13 => s.takeClear tag args
  | 14 => s.takeProtect tag args
  | 15 => s.takeLock tag args
  | 16 => s.takeResetArm tag args
  | 17 => s.takeReset tag args
  | _ => s.takeUnknown tag code args

/-- Take the request that a REQUEST payload carries (R137). -/
def State.handleRequest (s : State) : List Byte → State
  | [] => s.takeShort none
  | [tag] => s.takeShort (some tag)
  | tag :: code :: args => s.dispatchRequest tag code args

end Sys2Proof.Machine
end

