-- ==== Sys2Proof/Machine/Receive.lean ====
section
/-! DEFINITION. Receiving a frame: its check (R128), start-up by a frame (R122), the sequence (R129), the kind (R130),
and a check failure (R124, R128, R34). -/

namespace Sys2Proof.Machine

/-- A frame's sequence is not the one expected (R129). -/
def Port.gap (p : Port) (seq : Byte) : Bool :=
  match p.receiveSeq with
  | none => false
  | some q => seq ≠ q + 1

/-- A frame's sequence is compared with the receive sequence, which then takes it; a gap sets SEQ_GAP and on Link D
tears an open batch (R34, R129). -/
def State.takeSequence (s : State) (l : LinkId) (seq : Byte) : State :=
  let taken := s.modPort l fun p =>
    { p with receiveSeq := some seq, flags := { p.flags with seqGap := p.flags.seqGap || p.gap seq } }
  if (s.port l).gap seq && l = .d then taken.tearBatch else taken

/-- A frame that passes its check arrives: on a RUNNING link its sequence is taken and it is handed on; on a STARTING
link it first takes the link to RUNNING; elsewhere it is ignored (R122, R124, R125, R129). -/
def State.frameArrives (s : State) (l : LinkId) (seq : Byte) (handOn : State → State) : State :=
  let s := s.symbolArrives l .data
  match (s.port l).state with
  | .running => handOn (s.takeSequence l seq)
  | .starting => handOn ((s.enterRunning l).takeSequence l seq)
  | .off => s
  | .halted => s
  | .down => s

/-- What a check failure does in RUNNING: CHECK_ERR; on Link D an open batch is torn; a board link with halt-on-check
is halted (R34, R124, R128). -/
def State.failCheck (s : State) (l : LinkId) : State :=
  let flagged := s.modLinkFlags l fun f => { f with checkErr := true }
  if l = .d then flagged.tearBatch
  else if (s.port l).settings.haltOnCheck then flagged.halt l
  else flagged

/-- A frame that fails its check ends: in RUNNING it is a check failure, elsewhere it is discarded without a flag
(R122, R124, R125, R128). -/
def State.frameFails (s : State) (l : LinkId) : State := if s.running l then s.failCheck l else s

/-- A frame is accepted or discarded by its kind (R130). -/
def State.acceptFrame (s : State) (l : LinkId) (f : Frame) : State :=
  if f.kind = kindUpdate then s.takeUpdate l f
  else if f.kind = kindRequest ∧ l = .d then s.handleRequest f.payload
  else s.modLinkFlags l fun g => { g with wrongKind := true }

/-- A frame arrives at its check byte (R128). -/
def State.receiveFrame (s : State) (l : LinkId) (bytes : List Byte) : State :=
  match Frame.ofBytes bytes with
  | some f => s.frameArrives l f.seq fun s => s.acceptFrame l f
  | none => (s.symbolArrives l .data).frameFails l

/-- The symbol that ends a frame early; a length byte is a data symbol (R118, R128). -/
def endingSymbol : EarlyEnd → LineSymbol
  | .frameStart => .frameStart
  | .idleFill => .idleFill
  | .invalid => .invalid
  | .excessLength => .data

end Sys2Proof.Machine
end

