-- ==== Sys2Proof/Machine/Requests.lean ====
section
/-! DEFINITION. The meanings of the request rows. Each is the arrival on Link D of a REQUEST frame that passes its check
(R122, R129, R130), handed at once to the management unit, which takes the request whole (R137; log entry 6). -/

namespace Sys2Proof.Machine

/-- ARM (R140). -/
def execArm (seq tag : Byte) (args : List Byte) (s : State) : Host.Outcome State Fault Refusal :=
  .next (s.frameArrives .d seq fun s => s.takeArm tag args)

/-- DISARM (R140). -/
def execDisarm (seq tag : Byte) (args : List Byte) (s : State) : Host.Outcome State Fault Refusal :=
  .next (s.frameArrives .d seq fun s => s.takeDisarm tag args)

/-- STATUS (R154). -/
def execStatus (seq tag : Byte) (args : List Byte) (s : State) : Host.Outcome State Fault Refusal :=
  .next (s.frameArrives .d seq fun s => s.takeStatus tag args)

/-- CURSOR (R141). -/
def execCursor (seq tag : Byte) (args : List Byte) (s : State) : Host.Outcome State Fault Refusal :=
  .next (s.frameArrives .d seq fun s => s.takeCursor tag args)

/-- PUT (R143). -/
def execPut (seq tag : Byte) (args : List Byte) (s : State) : Host.Outcome State Fault Refusal :=
  .next (s.frameArrives .d seq fun s => s.takePut tag args)

/-- GET (R144). -/
def execGet (seq tag : Byte) (args : List Byte) (s : State) : Host.Outcome State Fault Refusal :=
  .next (s.frameArrives .d seq fun s => s.takeGet tag args)

/-- FILL (R145). -/
def execFill (seq tag : Byte) (args : List Byte) (s : State) : Host.Outcome State Fault Refusal :=
  .next (s.frameArrives .d seq fun s => s.takeFill tag args)

/-- OVERRIDE (R15). -/
def execOverride (seq tag : Byte) (args : List Byte) (s : State) : Host.Outcome State Fault Refusal :=
  .next (s.frameArrives .d seq fun s => s.takeOverride tag args)

/-- RELEASE (R16). -/
def execRelease (seq tag : Byte) (args : List Byte) (s : State) : Host.Outcome State Fault Refusal :=
  .next (s.frameArrives .d seq fun s => s.takeRelease tag args)

/-- FREEZE (R106). -/
def execFreeze (seq tag : Byte) (args : List Byte) (s : State) : Host.Outcome State Fault Refusal :=
  .next (s.frameArrives .d seq fun s => s.takeFreeze tag args)

/-- RESUME (R107). -/
def execResume (seq tag : Byte) (args : List Byte) (s : State) : Host.Outcome State Fault Refusal :=
  .next (s.frameArrives .d seq fun s => s.takeResume tag args)

/-- CLEAR (R155). -/
def execClear (seq tag : Byte) (args : List Byte) (s : State) : Host.Outcome State Fault Refusal :=
  .next (s.frameArrives .d seq fun s => s.takeClear tag args)

/-- PROTECT (R149). -/
def execProtect (seq tag : Byte) (args : List Byte) (s : State) : Host.Outcome State Fault Refusal :=
  .next (s.frameArrives .d seq fun s => s.takeProtect tag args)

/-- LOCK (R150). -/
def execLock (seq tag : Byte) (args : List Byte) (s : State) : Host.Outcome State Fault Refusal :=
  .next (s.frameArrives .d seq fun s => s.takeLock tag args)

/-- RESET_ARM (R151). -/
def execResetArm (seq tag : Byte) (args : List Byte) (s : State) : Host.Outcome State Fault Refusal :=
  .next (s.frameArrives .d seq fun s => s.takeResetArm tag args)

/-- RESET (R151, R152). -/
def execReset (seq tag : Byte) (args : List Byte) (s : State) : Host.Outcome State Fault Refusal :=
  .next (s.frameArrives .d seq fun s => s.takeReset tag args)

/-- LINK START (R121); bytes beyond the action are read past (R137). -/
def execLinkStart (seq tag linkNumber : Byte) (_extra : List Byte) (s : State) : Host.Outcome State Fault Refusal :=
  .next (s.frameArrives .d seq fun s => s.takeLinkStart tag linkNumber)

/-- LINK STOP (R121); bytes beyond the action are read past (R137). -/
def execLinkStop (seq tag linkNumber : Byte) (_extra : List Byte) (s : State) : Host.Outcome State Fault Refusal :=
  .next (s.frameArrives .d seq fun s => s.takeLinkStop tag linkNumber)

/-- LINK RESET (R126); bytes beyond the action are read past (R137). -/
def execLinkReset (seq tag linkNumber : Byte) (_extra : List Byte) (s : State) : Host.Outcome State Fault Refusal :=
  .next (s.frameArrives .d seq fun s => s.takeLinkReset tag linkNumber)

/-- LINK with an action above 2 (R139). -/
def execLinkBadAction (seq tag linkNumber _action : Byte) (_extra : List Byte) (s : State) :
    Host.Outcome State Fault Refusal :=
  .next (s.frameArrives .d seq fun s => s.takeLinkBadAction tag linkNumber)

/-- A request with an unknown code (R137). -/
def execUnknownRequest (seq tag code : Byte) (args : List Byte) (s : State) : Host.Outcome State Fault Refusal :=
  .next (s.frameArrives .d seq fun s => s.takeUnknown tag code args)

/-- A REQUEST payload of fewer than two bytes (R137). -/
def execShortRequestPayload (seq : Byte) (tag : Option Byte) (s : State) : Host.Outcome State Fault Refusal :=
  .next (s.frameArrives .d seq fun s => s.takeShort tag)

end Sys2Proof.Machine
end

