-- ==== Sys2Proof/Machine/SlotEvents.lean ====
section
/-! DEFINITION. The meanings of the events that the slots and the lines bring: SLOT_TIMER_EXPIRY, SYNC_EDGE,
TRANSMIT_COMPLETE, FRAME_RECEIVED, LINE_SYMBOL_RECEIVED, FRAME_ENDED_EARLY and FILL_WRITE. -/

namespace Sys2Proof.Machine

/-- SLOT_TIMER_EXPIRY (R89): the time base stands at the timer's end, and the next slot opens. A link whose slot timer
is stopped has no expiry. -/
def execSlotTimerExpiry (link : LinkId) (s : State) : Host.Outcome State Fault Refusal :=
  .next
    (match (s.port link).slotTimer with
     | some t => if s.running link then (s.reachTime t).openNext link else s
     | none => s)

/-- SYNC_EDGE (R90): under the EXTERNAL trigger an edge opens the next slot of a RUNNING board link; every other edge is
ignored. -/
def execSyncEdge (link : LinkId) (s : State) : Host.Outcome State Fault Refusal :=
  .next (if link ≠ .d ∧ s.running link = true ∧ (s.port link).settings.trigger = .external then s.openNext link else s)

/-- TRANSMIT_COMPLETE (R98): the time base stands at the end of the frame's transmission time, and the transmitting mark
is cleared. -/
def execTransmitComplete (link : LinkId) (s : State) : Host.Outcome State Fault Refusal :=
  .next
    (match (s.port link).line with
     | some t => (s.reachTime t.complete).modPort link fun p => { p with line := none }
     | none => s)

/-- FRAME_RECEIVED (R128). -/
def execFrameReceived (link : LinkId) (bytes : List Byte) (s : State) : Host.Outcome State Fault Refusal :=
  .next (s.receiveFrame link bytes)

/-- LINE_SYMBOL_RECEIVED (R118, R122, R125). -/
def execLineSymbolReceived (link : LinkId) (symbol : LineSymbol) (s : State) : Host.Outcome State Fault Refusal :=
  .next (s.symbolArrives link symbol)

/-- FRAME_ENDED_EARLY (R118, R128). The frame that ends has broken the idle fill, whatever symbol ends it (R122; log
entry 7). -/
def execFrameEndedEarly (link : LinkId) (cause : EarlyEnd) (s : State) : Host.Outcome State Fault Refusal :=
  .next (((s.symbolArrives link .fillBreak).symbolArrives link (endingSymbol cause)).frameFails link)

/-- FILL_WRITE (R146): the time base stands at the write's mark. With no FILL in flight there is no write. -/
def execFillWrite (s : State) : Host.Outcome State Fault Refusal :=
  .next
    (match s.management.fill with
     | some job => (s.reachTime job.due).fillStep job
     | none => s)

end Sys2Proof.Machine
end

