-- ==== Sys2Proof/Machine/Timers.lean ====
section
/-! DEFINITION. The meanings of POWER_ON_RESET, MILLISECOND_TICK and the events of the millisecond timer.

MILLISECOND_TICK takes the whole of a tick at its one instant: ageing, the tests of R8, fades, and every timer with the
expiry it finds (R7 to R10, R36, R108, R122, R125). Each expiry row is the one transition that such a tick makes, as a
command of its own: it tests the count that the state holds and makes the transition when the count stands, and leaves
the part as it is otherwise (log entry 3). -/

namespace Sys2Proof.Machine

/-- POWER_ON_RESET (R153): part reset's values, the straps read, the time bases started afresh. -/
def execPowerOnReset (rate1 rate0 : Bool) (s : State) : Host.Outcome State Fault Refusal :=
  .next { ({ s with rate1 := rate1, rate0 := rate0 }).partReset with now := 0, nextTick := Config.millisecond }

/-- The parts of a tick in the model's own order (log entry 4). -/
def allTickParts : List TickPart := [.cues, .batchTimer, .windowTimer, .port .d, .port .v, .port .a, .port .c]

/-- The parts of a tick in the order a sender gives, those it leaves out after it: each part once. -/
def tickSequence (order : List TickPart) : List TickPart := (order ++ allTickParts).eraseDups

/-- One part of a tick. -/
def State.tickPart (s : State) : TickPart → State
  | .cues => s.mapCues CueEntry.tick
  | .batchTimer => s.tickBatch
  | .windowTimer => s.tickWindow
  | .port l => s.tickPort l

/-- The millisecond timer delivers its tick: the time base stands at it, and the next one falls a millisecond on. -/
def State.startTick (s : State) : State := { s.reachTime s.nextTick with nextTick := s.nextTick + Config.millisecond }

/-- MILLISECOND_TICK (R7, R8, R10, R36, R108, R122, R125). -/
def execMillisecondTick (order : List TickPart) (s : State) : Host.Outcome State Fault Refusal :=
  .next ((tickSequence order).foldl State.tickPart s.startTick)

/-- FRESH_LIMIT_EXPIRY (R8, first test). -/
def execFreshLimitExpiry (cue : CueId) (s : State) : Host.Outcome State Fault Refusal :=
  .next (s.modCue cue CueEntry.testFresh)

/-- HOLD_LIMIT_EXPIRY (R8, second test; R9). -/
def execHoldLimitExpiry (cue : CueId) (s : State) : Host.Outcome State Fault Refusal :=
  .next (s.modCue cue CueEntry.testHold)

/-- STEP_TIMEOUT (R36). -/
def execStepTimeout (s : State) : Host.Outcome State Fault Refusal := .next s.testBatchWindow

/-- FREEZE_LATE (R108). -/
def execFreezeLate (s : State) : Host.Outcome State Fault Refusal := .next s.testFreezeWindow

/-- RESUME_LATE (R108). -/
def execResumeLate (s : State) : Host.Outcome State Fault Refusal := .next s.testResumeWindow

/-- START_TIMEOUT (R122). -/
def execStartTimeout (link : LinkId) (s : State) : Host.Outcome State Fault Refusal :=
  .next (if (s.port link).state = .starting ∧ Config.startLimit ≤ (s.port link).startTimer then s.timeOutStart link
    else s)

/-- IDLE_FILL_START_UP (R122): the start-up of a tick that ends a whole interval of unbroken idle fill, by the port's own
memory of the fill (log entry 5). -/
def execIdleFillStartUp (link : LinkId) (s : State) : Host.Outcome State Fault Refusal :=
  .next (if (s.port link).state = .starting ∧ (s.port link).filled = true then s.enterRunning link else s)

/-- SIGNAL_LOST (R125). -/
def execSignalLost (link : LinkId) (s : State) : Host.Outcome State Fault Refusal :=
  .next (if ((s.port link).state = .running ∨ (s.port link).state = .halted)
      ∧ Config.silenceLimit ≤ (s.port link).silence then s.loseSignal link else s)

/-- SIGNAL_RETURN_LINK_D (R125): the return to STARTING of a tick that finds valid symbols received since the previous
one, by the port's own memory of them (log entry 5). -/
def execSignalReturnLinkD (s : State) : Host.Outcome State Fault Refusal :=
  .next (if (s.port .d).state = .down ∧ (s.port .d).heard = true then s.enterStarting .d else s)

end Sys2Proof.Machine
end

