-- ==== Sys2Proof/Machine/Dispatch.lean ====
section
/-! DEFINITION. The dispatch: one arm for each command, one direct call of its meaning. -/

namespace Sys2Proof.Machine

def exec (i : Instr) (s : State) : Host.Outcome State Fault Refusal :=
  match i with
  | .powerOnReset rate1 rate0 => Sys2Proof.Machine.execPowerOnReset rate1 rate0 s
  | .millisecondTick order => Sys2Proof.Machine.execMillisecondTick order s
  | .freshLimitExpiry cue => Sys2Proof.Machine.execFreshLimitExpiry cue s
  | .holdLimitExpiry cue => Sys2Proof.Machine.execHoldLimitExpiry cue s
  | .stepTimeout => Sys2Proof.Machine.execStepTimeout s
  | .freezeLate => Sys2Proof.Machine.execFreezeLate s
  | .resumeLate => Sys2Proof.Machine.execResumeLate s
  | .startTimeout link => Sys2Proof.Machine.execStartTimeout link s
  | .idleFillStartUp link => Sys2Proof.Machine.execIdleFillStartUp link s
  | .signalLost link => Sys2Proof.Machine.execSignalLost link s
  | .signalReturnLinkD => Sys2Proof.Machine.execSignalReturnLinkD s
  | .slotTimerExpiry link => Sys2Proof.Machine.execSlotTimerExpiry link s
  | .syncEdge link => Sys2Proof.Machine.execSyncEdge link s
  | .transmitComplete link => Sys2Proof.Machine.execTransmitComplete link s
  | .frameReceived link bytes => Sys2Proof.Machine.execFrameReceived link bytes s
  | .arm seq tag args => Sys2Proof.Machine.execArm seq tag args s
  | .disarm seq tag args => Sys2Proof.Machine.execDisarm seq tag args s
  | .status seq tag args => Sys2Proof.Machine.execStatus seq tag args s
  | .cursor seq tag args => Sys2Proof.Machine.execCursor seq tag args s
  | .put seq tag args => Sys2Proof.Machine.execPut seq tag args s
  | .get seq tag args => Sys2Proof.Machine.execGet seq tag args s
  | .fill seq tag args => Sys2Proof.Machine.execFill seq tag args s
  | .fillWrite => Sys2Proof.Machine.execFillWrite s
  | .override seq tag args => Sys2Proof.Machine.execOverride seq tag args s
  | .release seq tag args => Sys2Proof.Machine.execRelease seq tag args s
  | .freeze seq tag args => Sys2Proof.Machine.execFreeze seq tag args s
  | .resume seq tag args => Sys2Proof.Machine.execResume seq tag args s
  | .linkStart seq tag linkNumber extra => Sys2Proof.Machine.execLinkStart seq tag linkNumber extra s
  | .linkStop seq tag linkNumber extra => Sys2Proof.Machine.execLinkStop seq tag linkNumber extra s
  | .linkReset seq tag linkNumber extra => Sys2Proof.Machine.execLinkReset seq tag linkNumber extra s
  | .clear seq tag args => Sys2Proof.Machine.execClear seq tag args s
  | .protect seq tag args => Sys2Proof.Machine.execProtect seq tag args s
  | .lock seq tag args => Sys2Proof.Machine.execLock seq tag args s
  | .resetArm seq tag args => Sys2Proof.Machine.execResetArm seq tag args s
  | .reset seq tag args => Sys2Proof.Machine.execReset seq tag args s
  | .unknownRequest seq tag code args => Sys2Proof.Machine.execUnknownRequest seq tag code args s
  | .lineSymbolReceived link symbol => Sys2Proof.Machine.execLineSymbolReceived link symbol s
  | .frameEndedEarly link cause => Sys2Proof.Machine.execFrameEndedEarly link cause s
  | .shortRequestPayload seq tag => Sys2Proof.Machine.execShortRequestPayload seq tag s
  | .linkBadAction seq tag linkNumber action extra => Sys2Proof.Machine.execLinkBadAction seq tag linkNumber action extra s

end Sys2Proof.Machine
end

