-- ==== Sys2Proof/Safety.lean ====
section
/-! DEFINITION. What a lawful state of the FG-430 is, in the terms the manual's whole-part sentences use. Each predicate
is meant to be kept by every step; `State.Lawful` gathers them. -/

namespace Sys2Proof.Machine

/-- The routes whose CUE_EVENT records stand in a queue, head first. -/
def eventRoutesIn (q : List QueueRecord) : List RouteId :=
  q.filterMap fun
    | .cueEvent e => some e.route
    | .reply _ => none

/-- A record is a REPLY. -/
def QueueRecord.isReply : QueueRecord → Bool
  | .cueEvent _ => false
  | .reply _ => true

/-- No queue holds more than 16 records or two CUE_EVENT records of one route, and the board queues hold no REPLY
(R72, chapter 4.2). -/
def State.QueuesLawful (s : State) : Prop :=
  ∀ l, s.level l ≤ 16 ∧ (eventRoutesIn (s.port l).queue).Nodup
    ∧ (l ≠ .d → ∀ r ∈ (s.port l).queue, r.isReply = false)

/-- While the freeze state is FREEZING or FROZEN, no event queue holds a CUE_EVENT record (R78, R114). -/
def State.FrozenQueuesClean (s : State) : Prop :=
  (s.freeze.state = .freezing ∨ s.freeze.state = .frozen) → ∀ l, eventRoutesIn (s.port l).queue = []

/-- A link out of RUNNING has an empty queue, a stopped slot timer, no snapshot and no frame on the line (R77, R96, R98,
R102). -/
def State.StoppedLinksQuiet (s : State) : Prop :=
  ∀ l, (s.port l).state ≠ .running →
    (s.port l).queue = [] ∧ (s.port l).slotTimer = none ∧ (s.port l).snapshot = none ∧ (s.port l).line = none

/-- The ranges that R43 secures in a record of kind FIELD: lo ≤ N ≤ hi, and F ≤ L when L is nonzero. -/
def RouteRecord.Bounded (r : RouteRecord) : Prop :=
  r.lo.toInt ≤ r.neutral.toInt ∧ r.neutral.toInt ≤ r.hi.toInt
    ∧ (r.slew ≠ 0 → r.freezeSlew.toNat ≤ r.slew.toNat)

/-- Every FIELD route is bounded, and the held value of a FIELD route of an ANALOG source lies in its range (R52). -/
def State.AnalogRoutesBounded (s : State) : Prop :=
  ∀ id, (s.route id).record.kind = .field →
    (s.route id).record.Bounded
      ∧ (s.sourceClass (s.route id).record = .analog →
          (s.route id).record.lo.toInt ≤ (s.route id).held.toInt
            ∧ (s.route id).held.toInt ≤ (s.route id).record.hi.toInt)

/-- The settled mark of a route is set exactly while it is FIELD and its held value equals its N (R110). -/
def State.SettledMarksRight (s : State) : Prop :=
  ∀ id, (s.route id).settled = true ↔
    ((s.route id).record.kind = .field ∧ (s.route id).held = (s.route id).record.neutral)

/-- A pending value stands only in a cue that Link D owns, and only while the batch is OPEN; the batch timer runs
exactly while it is OPEN; a batch is OPEN only while Link D is RUNNING (R2, R6, R33, R35). -/
def State.BatchLawful (s : State) : Prop :=
  (∀ c, (s.cue c).pending ≠ none → s.batch.isOpen = true ∧ (s.cue c).config.owner = some .d)
    ∧ (s.batch.isOpen = true ↔ s.batch.timer ≠ none)
    ∧ (s.batch.isOpen = true → (s.port .d).state = .running)

/-- No two FIELD routes hold one position, and every FIELD route's position is below its template's field count (R44,
R60). -/
def State.FieldPositionsLawful (s : State) : Prop :=
  ∀ id, (s.route id).record.kind = .field →
    (s.route id).record.position.toNat
        < ((s.port (s.route id).record.link).template (s.route id).record.template).fields
      ∧ ∀ k, k ≠ id →
          (s.route k).record.fills (s.route id).record.link (s.route id).record.template
            (s.route id).record.position.toNat = false

/-- Every LINK record holds settings in range, Link D's the INTERNAL trigger, halt-on-check off and the strapped rate;
the consecutive-event count is 0 to 3 (R93, R120). -/
def State.SettingsLawful (s : State) : Prop :=
  (∀ l, 1 ≤ (s.port l).settings.evMax ∧ (s.port l).settings.evMax ≤ 3 ∧ (s.port l).settings.almostFull ≤ 15
      ∧ (s.port l).eventCount ≤ 3)
    ∧ (s.port .d).settings.trigger = .internal
    ∧ (s.port .d).settings.haltOnCheck = false
    ∧ (s.port .d).settings.rate = strappedRate s.rate1 s.rate0

/-- The cursor stands inside its table, the partial-record buffer holds less than a record of it, and is empty while a
FILL is in flight; the boundary is 0 to 384 (R141, R142, R149). -/
def State.ManagementLawful (s : State) : Prop :=
  s.management.cursorIndex < s.management.cursorTable.size
    ∧ s.management.partialRecord.length < s.management.cursorTable.recordBytes
    ∧ (s.management.fill ≠ none → s.management.partialRecord = [])
    ∧ s.management.boundary ≤ 384

/-- A cue owned by NONE is EMPTY; an EMPTY cue has age 0; only an ANALOG cue is FADING; every age is 0 to 65535; every
configuration is in range (R2, R7, R9, R17). -/
def State.CueTableLawful (s : State) : Prop :=
  ∀ c, ((s.cue c).config.owner = none → (s.cue c).state = .empty)
    ∧ ((s.cue c).state = .empty → (s.cue c).age = 0)
    ∧ ((s.cue c).state = .fading → (s.cue c).config.cls = .analog)
    ∧ (s.cue c).age ≤ 65535
    ∧ (s.cue c).config.inRange = true

/-- The window timer runs exactly in FREEZING and RESUMING (R105, R108). -/
def State.WindowTimerLawful (s : State) : Prop :=
  s.freeze.timer ≠ none ↔ (s.freeze.state = .freezing ∨ s.freeze.state = .resuming)

/-- Every template is lawful, every record and snapshot that waits fits its frame kind, and every frame on a line would
pass the check a receiver makes of it (R84, R128, R133). -/
def State.FramesLawful (s : State) : Prop :=
  ∀ l, (∀ t, ((s.port l).template t).lawful = true)
    ∧ (∀ r, QueueRecord.reply r ∈ (s.port l).queue → r.data.length ≤ 48)
    ∧ (∀ k, (s.port l).snapshot = some k → k.payload.length ≤ 48)
    ∧ (∀ x, (s.port l).line = some x → (Frame.ofBytes x.bytes).isSome = true)

/-- Every law of this file. -/
def State.Lawful (s : State) : Prop :=
  s.QueuesLawful ∧ s.FrozenQueuesClean ∧ s.StoppedLinksQuiet ∧ s.AnalogRoutesBounded ∧ s.SettledMarksRight
    ∧ s.BatchLawful ∧ s.FieldPositionsLawful ∧ s.SettingsLawful ∧ s.ManagementLawful ∧ s.CueTableLawful
    ∧ s.WindowTimerLawful ∧ s.FramesLawful

/-! ### Terms of the statements about requests -/

/-- The sequence byte of a request row's frame; none for the rows that are no request. -/
def requestSeq : Instr → Option Byte
  | .arm seq _ _ => some seq
  | .disarm seq _ _ => some seq
  | .status seq _ _ => some seq
  | .cursor seq _ _ => some seq
  | .put seq _ _ => some seq
  | .get seq _ _ => some seq
  | .fill seq _ _ => some seq
  | .override seq _ _ => some seq
  | .release seq _ _ => some seq
  | .freeze seq _ _ => some seq
  | .resume seq _ _ => some seq
  | .linkStart seq _ _ _ => some seq
  | .linkStop seq _ _ _ => some seq
  | .linkReset seq _ _ _ => some seq
  | .clear seq _ _ => some seq
  | .protect seq _ _ => some seq
  | .lock seq _ _ => some seq
  | .resetArm seq _ _ => some seq
  | .reset seq _ _ => some seq
  | .unknownRequest seq _ _ _ => some seq
  | .shortRequestPayload seq _ => some seq
  | .linkBadAction seq _ _ _ _ => some seq
  | .powerOnReset _ _ => none
  | .millisecondTick _ => none
  | .freshLimitExpiry _ => none
  | .holdLimitExpiry _ => none
  | .stepTimeout => none
  | .freezeLate => none
  | .resumeLate => none
  | .startTimeout _ => none
  | .idleFillStartUp _ => none
  | .signalLost _ => none
  | .signalReturnLinkD => none
  | .slotTimerExpiry _ => none
  | .syncEdge _ => none
  | .transmitComplete _ => none
  | .frameReceived _ _ => none
  | .fillWrite => none
  | .lineSymbolReceived _ _ => none
  | .frameEndedEarly _ _ => none

/-- The REQUEST payload that a request row stands for: tag, code and argument bytes (R133); none for the rows that are
no request. -/
def requestPayload : Instr → Option (List Byte)
  | .arm _ tag args => some (tag :: 0x01 :: args)
  | .disarm _ tag args => some (tag :: 0x02 :: args)
  | .status _ tag args => some (tag :: 0x03 :: args)
  | .cursor _ tag args => some (tag :: 0x04 :: args)
  | .put _ tag args => some (tag :: 0x05 :: args)
  | .get _ tag args => some (tag :: 0x06 :: args)
  | .fill _ tag args => some (tag :: 0x07 :: args)
  | .override _ tag args => some (tag :: 0x08 :: args)
  | .release _ tag args => some (tag :: 0x09 :: args)
  | .freeze _ tag args => some (tag :: 0x0A :: args)
  | .resume _ tag args => some (tag :: 0x0B :: args)
  | .linkStart _ tag n extra => some (tag :: 0x0C :: n :: 0 :: extra)
  | .linkStop _ tag n extra => some (tag :: 0x0C :: n :: 1 :: extra)
  | .linkReset _ tag n extra => some (tag :: 0x0C :: n :: 2 :: extra)
  | .clear _ tag args => some (tag :: 0x0D :: args)
  | .protect _ tag args => some (tag :: 0x0E :: args)
  | .lock _ tag args => some (tag :: 0x0F :: args)
  | .resetArm _ tag args => some (tag :: 0x10 :: args)
  | .reset _ tag args => some (tag :: 0x11 :: args)
  | .unknownRequest _ tag code args => some (tag :: code :: args)
  | .shortRequestPayload _ tag => some tag.toList
  | .linkBadAction _ tag n action extra => some (tag :: 0x0C :: n :: action :: extra)
  | .powerOnReset _ _ => none
  | .millisecondTick _ => none
  | .freshLimitExpiry _ => none
  | .holdLimitExpiry _ => none
  | .stepTimeout => none
  | .freezeLate => none
  | .resumeLate => none
  | .startTimeout _ => none
  | .idleFillStartUp _ => none
  | .signalLost _ => none
  | .signalReturnLinkD => none
  | .slotTimerExpiry _ => none
  | .syncEdge _ => none
  | .transmitComplete _ => none
  | .frameReceived _ _ => none
  | .fillWrite => none
  | .lineSymbolReceived _ _ => none
  | .frameEndedEarly _ _ => none

/-- A link is RUNNING and finds a frame's sequence in order: none was received yet, or the last one's successor
(R129). -/
def State.inSequence (s : State) (l : LinkId) (seq : Byte) : Prop :=
  (s.port l).state = .running ∧ ∀ q, (s.port l).receiveSeq = some q → seq = q + 1

/-- Link D takes a REQUEST frame in sequence and its queue has room (R129, R138). -/
def State.readyFor (s : State) (seq : Byte) : Prop :=
  s.inSequence .d seq ∧ (s.port .d).queue.length < 16

/-- A RUNNING port that has taken a frame in sequence: a valid symbol has come, and the receive sequence stands at the
frame's (R125, R129). -/
def Port.took (p : Port) (seq : Byte) : Port := { p with silence := 0, heard := true, receiveSeq := some seq }

/-- The REPLY record of a request that answers with count 0 and no data (R139). -/
def plainReply (tag code result : Byte) (now : Time) : Reply :=
  { tag := tag, code := code, result := result, count := 0, data := [], eligible := now }

/-- Link D's port after a request's frame and its REPLY at the tail of the queue (R74). -/
def Port.answered (p : Port) (seq : Byte) (r : Reply) : Port :=
  { p.took seq with queue := p.queue ++ [.reply r] }

/-- The management unit after the steps that every request but ARM, PUT and RESET_ARM takes it through: the partial-record
buffer empty, the reset arm clear (R142, R151). -/
def Management.cleared (m : Management) : Management := { m with partialRecord := [], resetArm := false }

/-- The global flags after a request that empties the partial-record buffer: PARTIAL_DISCARDED set if it held bytes
(R142). -/
def GlobalFlags.discarding (f : GlobalFlags) (m : Management) : GlobalFlags :=
  { f with partialDiscarded := f.partialDiscarded || decide (m.partialRecord ≠ []) }

/-- The part after a request, other than ARM, PUT and RESET_ARM, whose one further effect is its REPLY. -/
def State.afterRequest (s : State) (seq : Byte) (r : Reply) : State :=
  { s with
    ports := { s.ports with d := s.ports.d.answered seq r }
    management := s.management.cleared
    flags := s.flags.discarding s.management }

/-- A link's frame ended, its scheduler stopped and its queue empty, in a state other than RUNNING (R123). -/
def Port.stopped (p : Port) (st : LinkState) : Port :=
  { p with state := st, slotTimer := none, snapshot := none, line := none, queue := [] }

/-- The slot that follows a walk position: of nonzero length, with none of nonzero length between them, counting upward
and wrapping, from slot 0 when the walk is at start (R89). `j` slots are passed over. -/
def FollowsInWalk (p : Port) (k : Fin 6) : Prop :=
  let first : Fin 6 := match p.walk with
    | none => 0
    | some w => w + 1
  ∃ j : Fin 6, k = first + j ∧ p.plan[k.val].length ≠ 0 ∧ ∀ i : Fin 6, i < j → p.plan[(first + i).val].length = 0

/-- A route the freeze controller waits for: FIELD, its link RUNNING, its template named by a slot of nonzero length
under a rule that builds or sends it (R109). -/
def State.Counted (s : State) (id : RouteId) : Prop :=
  (s.route id).record.kind = .field
    ∧ (s.port (s.route id).record.link).state = .running
    ∧ ∃ k : Fin 6,
        (s.port (s.route id).record.link).plan[k.val].length ≠ 0
          ∧ (s.port (s.route id).record.link).plan[k.val].template = (s.route id).record.template
          ∧ (s.port (s.route id).record.link).plan[k.val].rule ∈
              [SlotRule.cyclic, .eventOrCyclic, .head, .tail, .tailOrEvent]

/-- The value that an UPDATE payload brings to a cue through a link: the last pair that names it, if the link owns it
(R23, R24). -/
def State.broughtBy (s : State) (l : LinkId) (payload : List Byte) (c : CueId) : Option Word :=
  if (s.cue c).config.owner = some l then
    ((pairsOf payload).reverse.find? fun w => w.1 = c).map Prod.snd
  else none

/-- The value that an UPDATE frame in sequence on a link commits to a cue: on a board link what the frame brings; on
Link D the same for a plain update and a self-contained batch, nothing for an opening or a continuation, and at a closing
what the frame brings or else the pending value (R25, R27 to R31). -/
def State.commits (s : State) (l : LinkId) (f : Frame) (c : CueId) : Option Word :=
  if l = .d then
    match f.control.getLsbD 1, f.control.getLsbD 2, s.batch.isOpen with
    | true, true, _ => s.broughtBy l f.payload c
    | true, false, _ => none
    | false, true, true => (s.broughtBy l f.payload c).or (s.cue c).pending
    | false, false, true => none
    | false, _, false => s.broughtBy l f.payload c
  else s.broughtBy l f.payload c

/-- A peak register after a commit whose new effective value is `new`: the value of greater magnitude, the new one when
they are equal, both read as signed numbers whatever the class of the source (R57; log entry 11). -/
def Route.peakWith (x : Route) (new : Word) : Word :=
  match x.peak with
  | none => new
  | some old => if old.toInt.natAbs ≤ new.toInt.natAbs then new else old

/-- A cue entry after a commit of a value under a step tag (R4). -/
def CueEntry.committed (e : CueEntry) (v tag : Word) : CueEntry :=
  { e with previous := e.value, value := v, stepTag := tag, age := 0, state := .live, pending := none }

/-! ### Terms of the statements about slots and frames -/

/-- A port that starts a frame on its line at an instant (R98, R131): the frame carries the transmit sequence, which then
counts on; the transmission takes one symbol more than the frame has bytes. -/
def Port.sending (p : Port) (now : Time) (summary kind : Byte) (address : Bool) (tag : Word) (payload : List Byte) :
    Port :=
  let bytes := Frame.toBytes
    { kind := kind, control := if address then 1 else 0, seq := p.transmitSeq, stepTag := tag, summary := summary,
      payload := payload }
  { p with transmitSeq := p.transmitSeq + 1
           line := some { bytes := bytes, complete := now + (bytes.length + 1) * p.settings.rate.symbolTime } }

/-- A port at a slot open (R91): the walk at the slot, its timer started under the INTERNAL trigger, the snapshot
dropped. -/
def Port.atSlot (p : Port) (now : Time) (k : Fin 6) : Port :=
  { p with walk := some k
           slotTimer := if p.settings.trigger = .internal then some (now + 5 * p.plan[k.val].length.toNat) else none
           snapshot := none }

/-- The head of a queue may be sent at an instant (R75, R93). -/
def Port.maySend (p : Port) (now : Time) (r : QueueRecord) : Prop :=
  p.queue.head? = some r ∧ r.eligible ≤ now ∧ p.eventCount < p.settings.evMax

/-- A port that sends the head of its queue (R76, R93): a CUE_EVENT record under its own step tag and address, a REPLY
under the current step tag and address 0. -/
def Port.sendingRecord (p : Port) (now : Time) (summary : Byte) (currentTag : Word) (r : QueueRecord) : Port :=
  let taken := { p with queue := p.queue.tail, eventCount := p.eventCount + 1 }
  match r with
  | .cueEvent e =>
    taken.sending now summary 0x04 e.receiverAddress e.stepTag
      [BitVec.ofNat 8 (e.route.val / 256), BitVec.ofNat 8 e.route.val, e.cue, e.eventClass, e.value.hi, e.value.lo,
        0, 0]
  | .reply m => taken.sending now summary 0x05 false currentTag (m.tag :: m.code :: m.result :: m.count :: m.data)

/-- The number x that stage 1 selects for a route (R48). -/
def State.selected (s : State) (id : RouteId) : Int :=
  let x := s.route id
  let a := (s.cue (cueOfByte x.record.sourceA)).effective.toInt
  let b := (s.cue (cueOfByte x.record.sourceB)).effective.toInt
  if x.record.substitutePresent then x.record.substitute.toInt
  else
    match x.record.combine with
    | .pass => a
    | .sum => a + b
    | .diff => a - b
    | .peak => match x.peak with
      | some k => k.toInt
      | none => a

/-- The number y3 of a route: stages 2 to 4 on the number that stage 1 selects (R48 to R51). -/
def State.unclamped (s : State) (id : RouteId) : Int :=
  let r := (s.route id).record
  deadbandStage r.deadband.toNat (scaleStage r.gain.toInt r.shift.toNat (s.selected id)) + r.bias.toInt

/-- The number y4 of a route: y3 limited to the route's range (R52). -/
def State.clamped (s : State) (id : RouteId) : Int :=
  let r := (s.route id).record
  if s.unclamped id < r.lo.toInt then r.lo.toInt
  else if r.hi.toInt < s.unclamped id then r.hi.toInt
  else s.unclamped id

/-- The cues that a link's stale count counts: owned by the link, and HELD, FADING or RESTED (R14). -/
def State.staleCues (s : State) (l : LinkId) : List CueId :=
  (List.finRange 256).filter fun c => decide ((s.cue c).config.owner = some l
    ∧ ((s.cue c).state = .held ∨ (s.cue c).state = .fading ∨ (s.cue c).state = .rested))

/-- `u` stands in a tick that leads from `s` to `t`, just before a slot of link `l` opens, link `l` aside: at the tick's
instant; the cues, each without its pending value, all as before the tick or all as after it; every other link, the batch
state, the freeze state and each flag as before the tick or as after it; the rest as in `s`. -/
def State.InTickBeforeSlot (s u t : State) (l : LinkId) : Prop :=
  let cues (v : State) (c : CueId) : CueEntry := { v.cue c with pending := none }
  let between (flag : GlobalFlags → Bool) : Prop := flag u.flags = flag s.flags ∨ flag u.flags = flag t.flags
  u = { s with
      now := max s.now s.nextTick, nextTick := s.nextTick + 5000, cues := u.cues, batch := u.batch, routes := u.routes
      ports := u.ports, freeze := u.freeze, flags := u.flags, lastClipped := u.lastClipped }
    ∧ ((∀ c, cues u c = cues s c) ∨ (∀ c, cues u c = cues t c))
    ∧ (∀ k, k ≠ l → u.port k = s.port k ∨ u.port k = t.port k)
    ∧ (∀ id, (s.route id).record.link = l → u.route id = s.route id)
    ∧ u.batch.currentTag = s.batch.currentTag
    ∧ (u.batch.isOpen = s.batch.isOpen ∨ u.batch.isOpen = t.batch.isOpen)
    ∧ (u.freeze.state = s.freeze.state ∨ u.freeze.state = t.freeze.state)
    ∧ between GlobalFlags.stepTorn ∧ between GlobalFlags.stepTimeout ∧ between GlobalFlags.freezeLate
    ∧ between GlobalFlags.resumeLate ∧ between GlobalFlags.replyLost ∧ between GlobalFlags.partialDiscarded
    ∧ between GlobalFlags.clipped

/-- A computation of the route clips: its source A is ANALOG and y4 differs from y3 (R52, R56). -/
def State.Clips (s : State) (id : RouteId) : Prop :=
  s.sourceClass (s.route id).record = .analog ∧ s.clamped id ≠ s.unclamped id

/-- A FIELD route of a template of a link. -/
def State.InTemplate (s : State) (l : LinkId) (t : BitVec 2) (id : RouteId) : Prop :=
  (s.route id).record.kind = .field ∧ (s.route id).record.link = l ∧ (s.route id).record.template = t

/-- The bytes of the longest frame that a slot's rule can send, with the template it names; none for IDLE (R100). -/
def longestFrame (l : LinkId) (rule : SlotRule) (t : Template) : Option Nat :=
  let event := match l with
    | .d => 60
    | .v | .a | .c => 16
  match rule with
  | .cyclic => some (8 + t.payloadBytes)
  | .eventOrCyclic => some (max event (8 + t.payloadBytes))
  | .eventOrIdle => some event
  | .head => some (8 + t.headBytes)
  | .tail => some (8 + t.tailBytes)
  | .tailOrEvent => some (max event (8 + t.tailBytes))
  | .idle => none

/-- A slot of nonzero length fits at a line rate: at least 20 µs, and the longest frame its rule can send with the gap of
4 µs, in units of 200 ns (R100). -/
def SlotFits (l : LinkId) (rate : LineRate) (slot : Slot) (t : Template) : Prop :=
  20 ≤ slot.length.toNat
    ∧ ∀ n, longestFrame l slot.rule t = some n → (n + 1) * rate.symbolTime + 20 ≤ 5 * slot.length.toNat

/-- A port after a symbol at its receiver (R118, R122, R125): a valid one ends the silence, and at a STARTING link anything
but idle fill clears the idle-run mark and breaks the fill, while idle fill begins a fill where none stands. -/
def Port.hearing (p : Port) (valid idleFill : Bool) : Port :=
  { p with silence := if valid then 0 else p.silence
           heard := p.heard || valid
           idleRun := p.idleRun && (idleFill || decide (p.state ≠ .starting))
           fill := if p.state ≠ .starting then p.fill else if idleFill = false then .absent
             else if p.fill = .absent then .begun else p.fill }

/-! ### Terms of the statements about the tables -/

/-- The cursor report of a management unit (R139). -/
def Management.report (m : Management) : List Byte :=
  [m.cursorTable.code, BitVec.ofNat 8 (m.cursorIndex / 256), BitVec.ofNat 8 m.cursorIndex,
    BitVec.ofNat 8 (m.partialRecord.length + (match m.cursorMode with | .write => 128 | .read => 0))]

/-- A run of records written one after another from an index on, each against the tables as the earlier ones left them;
the index advances after each and wraps behind the table's last. `u` and `next` are the state and the index after the run
(R141, R143). -/
def State.WritesRun (t : TableId) : State → Nat → List (List Byte) → State → Nat → Prop
  | s, index, [], u, next => u = s ∧ next = index
  | s, index, record :: rest, u, next =>
    ∃ v, s.writeRecord t index record = .ok v
      ∧ State.WritesRun t v (if index + 1 < t.size then index + 1 else 0) rest u next

/-- None of the refusals of R43 holds for a record of kind FIELD or EVENT, with the class of its source A. -/
def RouteRecord.Consistent (r : RouteRecord) (cls : CueClass) : Prop :=
  r.deadband.toNat ≤ 4095 ∧ r.slew.toNat ≤ 32767 ∧ r.freezeSlew.toNat ≤ 32767
    ∧ r.lo.toInt ≤ r.hi.toInt ∧ r.lo.toInt ≤ r.neutral.toInt ∧ r.neutral.toInt ≤ r.hi.toInt
    ∧ (r.slew.toNat ≠ 0 → r.freezeSlew.toNat ≤ r.slew.toNat)
    ∧ (r.combine = .sum ∨ r.combine = .diff → r.sourceBPresent = true)
    ∧ (r.combine = .pass ∨ r.combine = .peak → r.sourceBPresent = false)
    ∧ (r.kind = .event → r.combine ≠ .peak)
    ∧ (cls = .switch → r.combine = .pass ∧ r.substitutePresent = false)

/-- A FIELD route started again from its N, without peak or converged mark (R47, R65, R110, R111). -/
def Route.restarted (x : Route) : Route :=
  { x with held := x.record.neutral, peak := none, converged := false, settled := true }

/-! ### Terms of the statements about resets -/

/-- Every block at the values of a power-on reset and a part reset, with Link D's rate (R152 and the rules it names). -/
def State.AtResetValues (t : State) (rateD : LineRate) : Prop :=
  (∀ c, t.cue c =
      { config := { cls := .analog, owner := none, neutral := 0, freshLimit := 20, holdLimit := 100, fadeStep := 64 }
        value := 0, previous := 0, pending := none, override := none, stepTag := 0, age := 0, state := .empty })
    ∧ t.batch = { isOpen := false, openTag := 0, timer := none, currentTag := 0 }
    ∧ (∀ id, (t.route id).record.kind = .off ∧ (t.route id).record.combine = .pass
        ∧ (t.route id).record.substitutePresent = false ∧ (t.route id).record.direction = .rising
        ∧ (t.route id).record.receiverAddress = false ∧ (t.route id).record.sourceBPresent = false
        ∧ (t.route id).record.link = .d ∧ (t.route id).record.template = 0 ∧ (t.route id).record.shift = 0
        ∧ (t.route id).record.position = 0 ∧ (t.route id).record.sourceA = 0 ∧ (t.route id).record.sourceB = 0
        ∧ (t.route id).record.eventClass = 0 ∧ (t.route id).record.substitute = 0 ∧ (t.route id).record.gain = 0
        ∧ (t.route id).record.deadband = 0 ∧ (t.route id).record.bias = 0
        ∧ (t.route id).record.lo.toInt = -32768 ∧ (t.route id).record.hi.toInt = 32767
        ∧ (t.route id).record.slew = 0 ∧ (t.route id).record.freezeSlew = 0 ∧ (t.route id).record.neutral = 0
        ∧ (t.route id).record.careMask = 0 ∧ (t.route id).record.threshold = 0 ∧ (t.route id).record.hysteresis = 0
        ∧ (t.route id).held = 0 ∧ (t.route id).peak = none ∧ (t.route id).armed = true
        ∧ (t.route id).settled = false ∧ (t.route id).converged = false)
    ∧ (∀ l, (t.port l).state = (if l = .d then .starting else .off)
        ∧ (t.port l).receiveSeq = none ∧ (t.port l).transmitSeq = 0 ∧ (t.port l).startTimer = 0
        ∧ (t.port l).silence = 0 ∧ (t.port l).idleRun = false
        ∧ (t.port l).fill = .absent ∧ (t.port l).heard = false
        ∧ (t.port l).flags =
            { checkErr := false, seqGap := false, ownerMismatch := false, wrongKind := false, slotOverrun := false
              tailOrphan := false, eventDrop := false, startTimeout := false, signalLost := false }
        ∧ (t.port l).settings =
            { rate := if l = .d then rateD else .mbit25, order := .big, trigger := .internal, haltOnCheck := false
              evMax := 1, almostFull := 4 }
        ∧ (∀ k : Fin 6, (t.port l).plan[k.val] =
            if l = .d ∧ k = 0 then { rule := .eventOrCyclic, template := 0, length := 500 }
            else { rule := .cyclic, template := 0, length := 0 })
        ∧ (∀ n, (t.port l).template n =
            { receiverAddress := false, fieldCount := 0, split := none, tailAddress := false, wide := 0 })
        ∧ (t.port l).walk = none ∧ (t.port l).slotTimer = none ∧ (t.port l).eventCount = 0
        ∧ (t.port l).snapshot = none ∧ (t.port l).line = none ∧ (t.port l).queue = [])
    ∧ t.freeze = { state := .run, timer := none }
    ∧ t.globals = { batchWindow := 10, freezeWindow := 3000, resumeWindow := 3000 }
    ∧ t.management =
        { armLatch := false, cursorTable := .cue, cursorIndex := 0, cursorMode := .read, partialRecord := []
          fill := none, fillNext := 0, resetArm := false, boundary := 0, side := .low, limitLock := false }
    ∧ t.flags =
        { stepTorn := false, stepTimeout := false, freezeLate := false, resumeLate := false, replyLost := false
          partialDiscarded := false, clipped := false }
    ∧ t.lastClipped = 0

/-- A safe run: no command of it ends in a fault or a refusal. -/
def SafeRun (k : Nat) (s : State) : Prop := ∃ t, Host.Core.run
  { State := State, Fault := Fault, Refusal := Refusal, step := step, reset := State.reset } k s = .next t

end Sys2Proof.Machine
end

