-- ==== Sys2Proof/WellFormed.lean ====
section
/-! DEFINITION. Which commands the outside can really send: frames whose bytes make up their own length, requests that
fit a REQUEST frame, request codes and actions that belong to their row. -/

namespace Sys2Proof

/-- A frame that reaches its check byte has 8 + length bytes, with a length its kind allows (R128, R132). -/
def frameIsWhole (bytes : List Byte) : Bool :=
  bytes.length == 8 + (bytes.getD 6 0).toNat && (bytes.getD 6 0).toNat ≤ Machine.maxPayload (bytes.getD 0 0)

/-- A REQUEST carries at most 60 argument bytes (R133). -/
def argumentsFit (args : List Byte) : Bool := args.length ≤ 60

/-- A LINK request carries its link number and its action before any further bytes (R133). -/
def linkExtraFits (extra : List Byte) : Bool := extra.length ≤ 58

/-- The codes 01h to 11h name requests (R133). -/
def requestCodeIsKnown (code : Byte) : Bool := 1 ≤ code.toNat && code.toNat ≤ 17

/-- The commands that can arise as their row describes them. -/
def Instr.wellFormed : Instr → Bool
  | .powerOnReset _ _ => true
  | .millisecondTick order => order.Nodup
  | .freshLimitExpiry _ => true
  | .holdLimitExpiry _ => true
  | .stepTimeout => true
  | .freezeLate => true
  | .resumeLate => true
  | .startTimeout _ => true
  | .idleFillStartUp _ => true
  | .signalLost _ => true
  | .signalReturnLinkD => true
  | .slotTimerExpiry _ => true
  | .syncEdge l => l ≠ .d
  | .transmitComplete _ => true
  | .frameReceived _ bytes => frameIsWhole bytes
  | .arm _ _ args => argumentsFit args
  | .disarm _ _ args => argumentsFit args
  | .status _ _ args => argumentsFit args
  | .cursor _ _ args => argumentsFit args
  | .put _ _ args => argumentsFit args
  | .get _ _ args => argumentsFit args
  | .fill _ _ args => argumentsFit args
  | .fillWrite => true
  | .override _ _ args => argumentsFit args
  | .release _ _ args => argumentsFit args
  | .freeze _ _ args => argumentsFit args
  | .resume _ _ args => argumentsFit args
  | .linkStart _ _ _ extra => linkExtraFits extra
  | .linkStop _ _ _ extra => linkExtraFits extra
  | .linkReset _ _ _ extra => linkExtraFits extra
  | .clear _ _ args => argumentsFit args
  | .protect _ _ args => argumentsFit args
  | .lock _ _ args => argumentsFit args
  | .resetArm _ _ args => argumentsFit args
  | .reset _ _ args => argumentsFit args
  | .unknownRequest _ _ code args => !requestCodeIsKnown code && argumentsFit args
  | .lineSymbolReceived _ _ => true
  | .frameEndedEarly _ _ => true
  | .shortRequestPayload _ _ => true
  | .linkBadAction _ _ _ action extra => decide (2 < action.toNat) && linkExtraFits extra

end Sys2Proof
end

