-- ==== Sys2Proof/Certificates/Slice0/Obligations.lean ====
section
/-! DEFINITION. The statements for the provers. A statement that quotes a rule whole cites it; the others cite the
sections they rest on. Where a statement rests on a choice of the model, its docstring names the log entry. -/

open Sys2Proof Sys2Proof.Machine

/-! ### The machine as a whole -/

/-- A step takes the command at the front of the queue and executes it on the state with the queue's rest. -/
def Obligations.StepRunsTheFrontCommand : Prop :=
  ∀ (c : Instr) (rest : List Instr) (s : State), s.pending = c :: rest →
    step s = exec c { s with pending := rest }

/-- On an empty queue the block idles for one unit of its time base: the model's choice, log entry 2. -/
def Obligations.EmptyQueueIdles : Prop :=
  ∀ s : State, s.pending = [] → step s = .next { s with now := s.now + 1 }

/-- Every command answers a next state, from every state, and leaves the waiting commands as they stand. The waiting
commands are the model's own, and that the two resets leave them too is its choice (log entry 15), as is that commands
which cannot arise run at all (log entry 13). -/
def Obligations.EveryCommandCompletes : Prop :=
  ∀ (c : Instr) (s : State), ∃ t, exec c s = .next t ∧ t.pending = s.pending

/-- The state after reset is lawful in every sense of Safety.lean. -/
def Obligations.ResetIsLawful : Prop := State.reset.Lawful

/-- POWER_ON_RESET (R153): every block at its reset value, Link D's rate taken from the straps by the table of
00_scope; the instants 0 and 5000 of the time bases are the model's choice, log entry 2, and so are that the waiting
commands stay, log entry 15, that no progress of a FILL is held but its next index, log entry 26, and that the port's
own `heard` and `fill` are clear, log entry 5. -/
def Obligations.PowerOnResetSetsEveryBlock : Prop :=
  ∀ (rate1 rate0 : Bool) (s : State), ∃ t, exec (.powerOnReset rate1 rate0) s = .next t
    ∧ strappedRate rate1 rate0 =
        (if rate1 = rate0 then (if rate1 then .mbit25 else .mbit12) else if rate1 then .mbit50 else .mbit25)
    ∧ t.AtResetValues (strappedRate rate1 rate0)
    ∧ t.rate1 = rate1 ∧ t.rate0 = rate0 ∧ t.now = 0 ∧ t.nextTick = 5000 ∧ t.pending = s.pending

/-! ### The millisecond timer -/

/-- MILLISECOND_TICK ages every entry, tests its limits and moves its fade (R7 to R10, R13), whatever the order of the
tick's parts. -/
def Obligations.TickAgesAndFadesEveryCue : Prop :=
  ∀ (order : List TickPart) (s : State), ∃ t, exec (.millisecondTick order) s = .next t ∧ ∀ c,
    let e := s.cue c
    let e' := t.cue c
    let fresh := e.config.freshLimit.toNat
    let stale := e.config.freshLimit.toNat + e.config.holdLimit.toNat
    let x := e.value.toInt
    let n := e.config.neutral.toInt
    let step : Int := e.config.fadeStep.toNat
    e'.config = e.config ∧ e'.override = e.override ∧ e'.previous = e.previous ∧ e'.stepTag = e.stepTag
      ∧ (e'.pending = e.pending ∨ e'.pending = none)
      ∧ e'.age = (if e.state = .empty then e.age else min (e.age + 1) 65535)
      ∧ (e.state = .empty → e'.state = .empty ∧ e'.value = e.value)
      ∧ (e.state = .live → e'.age < fresh → e'.state = .live ∧ e'.value = e.value)
      ∧ (e.state = .live → fresh ≤ e'.age → e'.age < stale → e'.state = .held ∧ e'.value = e.value)
      ∧ (e.state = .held → e'.age < stale → e'.state = .held ∧ e'.value = e.value)
      ∧ (e.state = .live ∨ e.state = .held → stale ≤ e'.age → e.config.cls = .switch ∨ x = n →
          e'.state = .rested ∧ e'.value = e.config.neutral)
      ∧ (e.state = .live ∨ e.state = .held → stale ≤ e'.age → e.config.cls = .analog → x ≠ n →
          e'.state = .fading ∧ e'.value = e.value)
      ∧ (e.state = .fading → e.config.cls = .analog → n < x - step → e'.state = .fading ∧ e'.value.toInt = x - step)
      ∧ (e.state = .fading → e.config.cls = .analog → x + step < n → e'.state = .fading ∧ e'.value.toInt = x + step)
      ∧ (e.state = .fading → e.config.cls = .analog → x - step ≤ n → n ≤ x + step →
          e'.state = .rested ∧ e'.value = e.config.neutral)
      ∧ (e.state = .rested → e'.state = .rested ∧ e'.value = e.value)

/-- What a tick does besides ageing the cues, whatever the order of its parts (log entry 4). A STARTING link (R122)
whose idle-run mark is set and whose fill stood at the last tick and came on unbroken enters RUNNING and opens its
first slot, at a state of the tick in which all else is as before the tick or as after it; otherwise it times out with
its flag or waits on, its mark set. The silence count of a RUNNING or HALTED one (R125): the second tick takes it DOWN
with its flag, out of RUNNING with the effects of R123. A Link D that is DOWN and heard its signal enters STARTING.
The batch timer and the window timer count on or expire (R36, R108). On Link D the loss of the signal ends an open
batch too, torn or timed out by the order of the parts. Nothing else moves. The instants `now` and `nextTick` are the
model's time base (log entry 2), and `heard` and `fill` its own memory of a valid symbol and of the fill, by which it
tells a whole interval of fill and the signal's return (log entry 5). That the walk position of a link that leaves
RUNNING stands is the model's choice, log entry 23. -/
def Obligations.TickMovesTimersAndPorts : Prop :=
  ∀ (order : List TickPart) (s : State),
    let starts (l : LinkId) : Prop := (s.port l).state = .starting ∧ (s.port l).idleRun = true
      ∧ (s.port l).fill = .whole ∧ (s.port l).heard = true
    let leaves (l : LinkId) : Prop := (s.port l).state = .running ∧ 1 ≤ (s.port l).silence
    let atTick := max s.now s.nextTick
    ∃ t, exec (.millisecondTick order) s = .next t
      ∧ t = { s with
          now := atTick, nextTick := s.nextTick + 5000, cues := t.cues, batch := t.batch, routes := t.routes
          ports := t.ports, freeze := t.freeze, lastClipped := t.lastClipped
          flags := { s.flags with
            stepTorn := t.flags.stepTorn, stepTimeout := t.flags.stepTimeout, freezeLate := t.flags.freezeLate
            resumeLate := t.flags.resumeLate, clipped := t.flags.clipped } }
      ∧ (∀ id, (t.route id).record = (s.route id).record ∧ (t.route id).armed = (s.route id).armed)
      ∧ (∀ id, (s.route id).record.kind ≠ .field ∨ ¬ starts (s.route id).record.link → t.route id = s.route id)
      ∧ ((∀ l, ¬ starts l) → t.flags.clipped = s.flags.clipped ∧ t.lastClipped = s.lastClipped)
      ∧ (∀ l,
          let p := s.port l
          let counted := { p with
            startTimer := p.startTimer + 1, heard := false
            fill := if p.fill ≠ FillRun.absent ∧ p.heard = true then .whole else .absent }
          let entered := { counted with
            state := .running, receiveSeq := none, silence := 0, walk := none, slotTimer := none, eventCount := 0
            snapshot := none, line := none }
          (p.state = .off → t.port l = p)
            ∧ (starts l → (t.port l).state = .running ∧ (t.port l).receiveSeq = none ∧ (t.port l).silence = 0
                ∧ (t.port l).heard = false ∧ (t.port l).startTimer = p.startTimer + 1
                ∧ (t.port l).settings = p.settings ∧ (t.port l).plan = p.plan ∧ (t.port l).templates = p.templates)
            ∧ (starts l → p.settings.trigger = .external ∨ (∀ k : Fin 6, p.plan[k.val].length = 0) →
                t.port l = entered)
            ∧ (∀ k, starts l → p.settings.trigger = .internal → FollowsInWalk entered k →
                (t.port l).walk = some k ∧ (t.port l).slotTimer = some (atTick + 5 * p.plan[k.val].length.toNat)
                  ∧ ∃ u : State, s.InTickBeforeSlot u t l ∧ u.port l = entered ∧ t.port l = (u.openSlot l k).port l
                    ∧ ∀ id, (s.route id).record.link = l → t.route id = (u.openSlot l k).route id)
            ∧ (p.state = .starting → ¬ starts l → p.startTimer + 1 < 50 → t.port l = { counted with idleRun := true })
            ∧ (p.state = .starting → ¬ starts l → 50 ≤ p.startTimer + 1 →
                t.port l = { counted with state := .down, flags := { p.flags with startTimeout := true } })
            ∧ (p.state = .running ∨ p.state = .halted → p.silence = 0 →
                t.port l = { p with silence := 1, heard := false })
            ∧ (p.state = .running → 1 ≤ p.silence →
                t.port l = { p.stopped .down with
                  silence := p.silence + 1, heard := false, flags := { p.flags with signalLost := true } })
            ∧ (p.state = .halted → 1 ≤ p.silence →
                t.port l = { p with
                  state := .down, silence := p.silence + 1, heard := false
                  flags := { p.flags with signalLost := true } })
            ∧ (p.state = .down → l ≠ .d ∨ p.heard = false → t.port l = { p with heard := false })
            ∧ (p.state = .down → l = .d → p.heard = true →
                t.port l = { p with
                  state := .starting, startTimer := 0, idleRun := false, fill := .absent, heard := false }))
      ∧ (s.batch.isOpen = false → t.batch = s.batch ∧ t.flags.stepTimeout = s.flags.stepTimeout
          ∧ t.flags.stepTorn = s.flags.stepTorn ∧ ∀ c, (t.cue c).pending = (s.cue c).pending)
      ∧ (∀ n, s.batch.isOpen = true → ¬ leaves .d → s.batch.timer = some n → n + 1 < s.globals.batchWindow.toNat →
          t.batch = { s.batch with timer := some (n + 1) } ∧ t.flags.stepTimeout = s.flags.stepTimeout
            ∧ t.flags.stepTorn = s.flags.stepTorn ∧ ∀ c, (t.cue c).pending = (s.cue c).pending)
      ∧ (∀ n, s.batch.isOpen = true → ¬ leaves .d → s.batch.timer = some n → s.globals.batchWindow.toNat ≤ n + 1 →
          t.batch = { s.batch with isOpen := false, timer := none } ∧ t.flags.stepTimeout = true
            ∧ t.flags.stepTorn = s.flags.stepTorn ∧ ∀ c, (t.cue c).pending = none)
      ∧ (∀ n, s.batch.isOpen = true → leaves .d → s.batch.timer = some n →
          t.batch = { s.batch with isOpen := false, timer := none } ∧ (∀ c, (t.cue c).pending = none)
            ∧ ((t.flags.stepTorn = true ∧ t.flags.stepTimeout = s.flags.stepTimeout)
              ∨ (t.flags.stepTorn = s.flags.stepTorn ∧ t.flags.stepTimeout = true
                  ∧ s.globals.batchWindow.toNat ≤ n + 1)))
      ∧ (s.freeze.state = .run ∨ s.freeze.state = .frozen → t.freeze = s.freeze
          ∧ t.flags.freezeLate = s.flags.freezeLate ∧ t.flags.resumeLate = s.flags.resumeLate)
      ∧ (∀ n, s.freeze = { state := .freezing, timer := some n } →
          t.flags.resumeLate = s.flags.resumeLate
            ∧ (n + 1 < s.globals.freezeWindow.toNat → t.flags.freezeLate = s.flags.freezeLate
                ∧ (t.freeze = { state := .freezing, timer := some (n + 1) } ∨ t.freeze = { state := .frozen, timer := none })
                ∧ ((∀ l, ¬ starts l ∧ ¬ leaves l) → t.freeze = { state := .freezing, timer := some (n + 1) }))
            ∧ (s.globals.freezeWindow.toNat ≤ n + 1 → t.freeze = { state := .frozen, timer := none }
                ∧ (t.flags.freezeLate = true ∨ t.flags.freezeLate = s.flags.freezeLate)
                ∧ ((∀ l, ¬ starts l ∧ ¬ leaves l) → t.flags.freezeLate = true)))
      ∧ (∀ n, s.freeze = { state := .resuming, timer := some n } →
          t.flags.freezeLate = s.flags.freezeLate
            ∧ (n + 1 < s.globals.resumeWindow.toNat → t.flags.resumeLate = s.flags.resumeLate
                ∧ (t.freeze = { state := .resuming, timer := some (n + 1) } ∨ t.freeze = { state := .run, timer := none })
                ∧ ((∀ l, ¬ starts l ∧ ¬ leaves l) → t.freeze = { state := .resuming, timer := some (n + 1) }))
            ∧ (s.globals.resumeWindow.toNat ≤ n + 1 → t.freeze = { state := .run, timer := none }
                ∧ (t.flags.resumeLate = true ∨ t.flags.resumeLate = s.flags.resumeLate)
                ∧ ((∀ l, ¬ starts l ∧ ¬ leaves l) → t.flags.resumeLate = true)))

/-- FRESH_LIMIT_EXPIRY and HOLD_LIMIT_EXPIRY are the two tests of R8 with R9 at one entry; the first raises the stale
count of the cue's owner by 1 and the second leaves every stale count (R14). That an expiry row by itself does the
test and nothing else is the model's choice, log entry 3. -/
def Obligations.LimitExpiriesMoveOneCue : Prop :=
  ∀ (c : CueId) (s : State),
    let e := s.cue c
    let fresh := e.config.freshLimit.toNat
    let stale := e.config.freshLimit.toNat + e.config.holdLimit.toNat
    (e.state = .live → fresh ≤ e.age →
        ∃ t, exec (.freshLimitExpiry c) s = .next t ∧ t = s.setCue c { e with state := .held }
          ∧ ∀ l, (t.staleCues l).length =
              (s.staleCues l).length + (if e.config.owner = some l then 1 else 0))
      ∧ (e.state ≠ .live ∨ e.age < fresh → exec (.freshLimitExpiry c) s = .next s)
      ∧ (e.state = .held → stale ≤ e.age →
          ∃ t, exec (.holdLimitExpiry c) s = .next t
            ∧ t = s.setCue c (if e.config.cls = .analog ∧ e.value ≠ e.config.neutral then { e with state := .fading }
                else { e with value := e.config.neutral, state := .rested })
            ∧ ∀ l, (t.staleCues l).length = (s.staleCues l).length)
      ∧ (e.state ≠ .held ∨ e.age < stale → exec (.holdLimitExpiry c) s = .next s)

/-- STEP_TIMEOUT, FREEZE_LATE and RESUME_LATE: a timer that has reached its window ends the batch or the ramp with its
flag (R33, R36, R108), and a command that finds no such timer changes nothing (log entry 3). -/
def Obligations.WindowExpiriesEndTheirWork : Prop :=
  ∀ s : State,
    (∀ n, s.batch.isOpen = true → s.batch.timer = some n → s.globals.batchWindow.toNat ≤ n →
        ∃ t, exec .stepTimeout s = .next t
          ∧ t = { s with cues := t.cues, batch := { s.batch with isOpen := false, timer := none },
                         flags := { s.flags with stepTimeout := true } }
          ∧ ∀ c, t.cue c = { s.cue c with pending := none })
      ∧ (s.batch.isOpen = false ∨ (∀ n, s.batch.timer = some n → n < s.globals.batchWindow.toNat) →
          exec .stepTimeout s = .next s)
      ∧ (∀ n, s.freeze = { state := .freezing, timer := some n } → s.globals.freezeWindow.toNat ≤ n →
          exec .freezeLate s = .next { s with freeze := { state := .frozen, timer := none },
                                              flags := { s.flags with freezeLate := true } })
      ∧ (s.freeze.state ≠ .freezing ∨ (∀ n, s.freeze.timer = some n → n < s.globals.freezeWindow.toNat) →
          exec .freezeLate s = .next s)
      ∧ (∀ n, s.freeze = { state := .resuming, timer := some n } → s.globals.resumeWindow.toNat ≤ n →
          exec .resumeLate s = .next { s with freeze := { state := .run, timer := none },
                                              flags := { s.flags with resumeLate := true } })
      ∧ (s.freeze.state ≠ .resuming ∨ (∀ n, s.freeze.timer = some n → n < s.globals.resumeWindow.toNat) →
          exec .resumeLate s = .next s)

/-- START_TIMEOUT takes a STARTING link at 50 ticks to DOWN with its flag (R122), and SIGNAL_RETURN_LINK_D takes a
Link D that is DOWN and has received valid symbols since the last tick to STARTING with its start timer and idle-run
mark cleared (R122, R125). A command whose condition does not stand changes nothing (log entries 3 and 5). -/
def Obligations.StartTimeoutAndSignalReturn : Prop :=
  ∀ (l : LinkId) (s : State),
    ((s.port l).state = .starting → 50 ≤ (s.port l).startTimer →
        exec (.startTimeout l) s = .next (s.setPort l
          { s.port l with state := .down, flags := { (s.port l).flags with startTimeout := true } }))
      ∧ ((s.port l).state ≠ .starting ∨ (s.port l).startTimer < 50 → exec (.startTimeout l) s = .next s)
      ∧ ((s.port .d).state = .down → (s.port .d).heard = true →
          exec .signalReturnLinkD s = .next (s.setPort .d
            { s.port .d with state := .starting, startTimer := 0, idleRun := false, fill := .absent }))
      ∧ ((s.port .d).state ≠ .down ∨ (s.port .d).heard = false → exec .signalReturnLinkD s = .next s)

/-- IDLE_FILL_START_UP takes a STARTING link with its idle-run mark set, whose fill stood at the last tick and came on
unbroken, to RUNNING (R122, R123, R102): the receive sequence unset, the transmit sequence kept, the scheduler at
start; under the INTERNAL trigger the first slot of nonzero length opens at once, under the EXTERNAL none does. That
the command tells the fill by the marks `fill` and `heard`, and changes nothing where the condition does not stand, is
the model's choice, log entry 5. -/
def Obligations.IdleFillTakesTheLinkToRunning : Prop :=
  ∀ (l : LinkId) (s : State),
    let entered := { s.port l with
      state := .running, receiveSeq := none, silence := 0, walk := none, slotTimer := none, eventCount := 0,
      snapshot := none, line := none }
    ((s.port l).state = .starting → (s.port l).idleRun = true → (s.port l).fill = .whole → (s.port l).heard = true →
        ((s.port l).settings.trigger = .external ∨ (∀ k : Fin 6, (s.port l).plan[k.val].length = 0) →
            exec (.idleFillStartUp l) s = .next (s.setPort l entered))
          ∧ ((s.port l).settings.trigger = .internal → ∀ k, FollowsInWalk entered k →
              exec (.idleFillStartUp l) s = .next ((s.setPort l entered).openSlot l k)))
      ∧ ((s.port l).state ≠ .starting ∨ (s.port l).idleRun = false ∨ (s.port l).fill ≠ .whole
            ∨ (s.port l).heard = false →
          exec (.idleFillStartUp l) s = .next s)

/-- SIGNAL_LOST takes a RUNNING or HALTED link whose silence count is 2 or more to DOWN with its flag; leaving RUNNING
ends the frame, the scheduler and the queue, tears an open batch on Link D, and the ramp is re-evaluated (R123, R125).
A command that finds a shorter silence changes nothing (log entry 3). That the walk position of a link that leaves
RUNNING stands is the model's choice, log entry 23. -/
def Obligations.SignalLossTakesTheLinkDown : Prop :=
  ∀ (l : LinkId) (s : State),
    let lost := { (s.port l).flags with signalLost := true }
    ((s.port l).state = .halted → 2 ≤ (s.port l).silence →
        exec (.signalLost l) s = .next (s.setPort l { s.port l with state := .down, flags := lost }))
      ∧ ((s.port l).state = .running → 2 ≤ (s.port l).silence → l ≠ .d →
          exec (.signalLost l) s =
            .next (s.setPort l { (s.port l).stopped .down with flags := lost }).reevaluate)
      ∧ ((s.port l).state = .running → 2 ≤ (s.port l).silence → l = .d →
          exec (.signalLost l) s =
            .next (s.setPort l { (s.port l).stopped .down with flags := lost }).tearBatch.reevaluate)
      ∧ (((s.port l).state ≠ .running ∧ (s.port l).state ≠ .halted) ∨ (s.port l).silence < 2 →
          exec (.signalLost l) s = .next s)

/-- What a tear of the open batch does (R33), and what a re-evaluation of the ramp does (R109, R112). -/
def Obligations.TearAndReevaluation : Prop :=
  ∀ s : State,
    (s.batch.isOpen = true →
        s.tearBatch = { s with cues := s.tearBatch.cues, batch := { s.batch with isOpen := false, timer := none },
                               flags := { s.flags with stepTorn := true } }
          ∧ ∀ c, s.tearBatch.cue c = { s.cue c with pending := none })
      ∧ (s.batch.isOpen = false → s.tearBatch = s)
      ∧ (s.freeze.state = .freezing → (∀ id, s.Counted id → (s.route id).settled = true) →
          s.reevaluate = { s with freeze := { state := .frozen, timer := none } })
      ∧ (s.freeze.state = .freezing → (∃ id, s.Counted id ∧ (s.route id).settled = false) → s.reevaluate = s)
      ∧ (s.freeze.state = .resuming → (∀ id, s.Counted id → (s.route id).converged = true) →
          s.reevaluate = { s with freeze := { state := .run, timer := none } })
      ∧ (s.freeze.state = .resuming → (∃ id, s.Counted id ∧ (s.route id).converged = false) → s.reevaluate = s)
      ∧ (s.freeze.state = .run ∨ s.freeze.state = .frozen → s.reevaluate = s)

/-! ### Slots and frames sent -/

/-- SLOT_TIMER_EXPIRY (R89) and SYNC_EDGE (R90): on a RUNNING link the next slot of nonzero length opens, at the
timer's end or at the edge; with no such slot the walk stops at start; an expiry or edge of a link out of RUNNING, and
an edge under the INTERNAL trigger, change nothing. That an expiry moves the time base to the timer's end is the
model's choice, log entry 2; that an expiry without a running timer and an edge on Link D change nothing is its choice
too, log entry 13. -/
def Obligations.ExpiryOrEdgeOpensTheNextSlot : Prop :=
  ∀ (l : LinkId) (s : State),
    (∀ at_ : Time, (s.port l).state = .running → (s.port l).slotTimer = some at_ →
        (∀ k, FollowsInWalk (s.port l) k →
            exec (.slotTimerExpiry l) s = .next (({ s with now := max s.now at_ }).openSlot l k))
          ∧ ((∀ k : Fin 6, (s.port l).plan[k.val].length = 0) →
              exec (.slotTimerExpiry l) s = .next (({ s with now := max s.now at_ }).setPort l
                { s.port l with walk := none, slotTimer := none, snapshot := none })))
      ∧ ((s.port l).state ≠ .running ∨ (s.port l).slotTimer = none → exec (.slotTimerExpiry l) s = .next s)
      ∧ ((s.port l).state = .running → (s.port l).settings.trigger = .external → l ≠ .d →
          (∀ k, FollowsInWalk (s.port l) k → exec (.syncEdge l) s = .next (s.openSlot l k))
            ∧ ((∀ k : Fin 6, (s.port l).plan[k.val].length = 0) →
                exec (.syncEdge l) s = .next (s.setPort l
                  { s.port l with walk := none, slotTimer := none, snapshot := none })))
      ∧ ((s.port l).state ≠ .running ∨ (s.port l).settings.trigger = .internal ∨ l = .d →
          exec (.syncEdge l) s = .next s)

/-- A slot open with a frame still on the line is an overrun whatever its rule (R99). With the transmitter free an
IDLE slot sends nothing; a TAIL or TAIL_OR_EVENT slot sends the snapshot of its own template, with the snapshot's tag
and address; a TAIL slot that finds none is an orphan (R91, R95). A header's sequence and summary byte are those
before the slot's own effects: log entry 18. A frame sent takes its symbols' time: 0.8, 0.4 or 0.2 µs a symbol by the
line rate, here 4, 2 or 1 units of 200 ns (R98, R118). -/
def Obligations.OverrunIdleAndTailSlots : Prop :=
  (∀ rate : LineRate, rate.symbolTime = match rate with | .mbit12 => 4 | .mbit25 => 2 | .mbit50 => 1)
    ∧ ∀ (l : LinkId) (k : Fin 6) (s : State),
    let p := s.port l
    let slot := p.plan[k.val]
    (p.line ≠ none → s.openSlot l k =
        s.setPort l { p.atSlot s.now k with flags := { p.flags with slotOverrun := true } })
      ∧ (p.line = none → slot.rule = .idle → s.openSlot l k = s.setPort l (p.atSlot s.now k))
      ∧ (∀ snap, p.line = none → slot.rule = .tail ∨ slot.rule = .tailOrEvent → p.snapshot = some snap →
          snap.template = slot.template →
          s.openSlot l k = s.setPort l (({ p.atSlot s.now k with eventCount := 0 }).sending s.now s.summary 0x03
            snap.receiverAddress snap.stepTag snap.payload))
      ∧ (p.line = none → slot.rule = .tail → (∀ snap, p.snapshot = some snap → snap.template ≠ slot.template) →
          s.openSlot l k = s.setPort l { p.atSlot s.now k with flags := { p.flags with tailOrphan := true } })

/-- An EVENT_OR_IDLE, EVENT_OR_CYCLIC or snapshotless TAIL_OR_EVENT slot sends the head of the queue when it is
eligible and the consecutive-event count is below EVMAX, as an EVENT or REPLY frame; when it is not, the first and the
last send nothing, and EVENT_OR_CYCLIC acts as CYCLIC (R75, R76, R91, R92, R93, R95). That the summary byte is taken
before the record leaves the queue is the model's reading, log entry 18. -/
def Obligations.EventSlotsSendTheEligibleHead : Prop :=
  ∀ (l : LinkId) (k : Fin 6) (s : State),
    let p := s.port l
    let slot := p.plan[k.val]
    let mayEvent := slot.rule = .eventOrCyclic ∨ slot.rule = .eventOrIdle
      ∨ (slot.rule = .tailOrEvent ∧ ∀ snap, p.snapshot = some snap → snap.template ≠ slot.template)
    (∀ r, p.line = none → mayEvent → p.maySend s.now r →
        s.openSlot l k = s.setPort l ((p.atSlot s.now k).sendingRecord s.now s.summary s.batch.currentTag r))
      ∧ (p.line = none → mayEvent → (∀ r, ¬ p.maySend s.now r) → slot.rule ≠ .eventOrCyclic →
          s.openSlot l k = s.setPort l (p.atSlot s.now k))
      ∧ (p.line = none → (∀ r, ¬ p.maySend s.now r) → slot.rule = .eventOrCyclic →
          s.openSlot l k =
            (s.setPort l (p.atSlot s.now k)).sendCyclic l s.summary slot.template)

/-- A CYCLIC slot builds its template, sends the cyclic frame of all its fields and has the ramp re-evaluated; a HEAD
slot builds the whole template at once, sends the fields before the split point and keeps the rest, with the tail
address and the current step tag, as the snapshot (R92, R94, R97, R112). That the summary byte is taken before the
build's own clip and re-evaluation is the model's reading, log entry 18. -/
def Obligations.BuildSlotsSendTheirFrame : Prop :=
  ∀ (l : LinkId) (k : Fin 6) (s : State) (split : Byte),
    let p := s.port l
    let slot := p.plan[k.val]
    let tmpl := p.template slot.template
    let opened := s.setPort l (p.atSlot s.now k)
    let built := opened.buildTemplate l slot.template
    (p.line = none → slot.rule = .cyclic →
        s.openSlot l k =
          (built.1.setPort l (({ p.atSlot s.now k with eventCount := 0 }).sending s.now s.summary 0x01
            tmpl.receiverAddress s.batch.currentTag built.2.flatten)).reevaluate)
      ∧ (p.line = none → slot.rule = .head → tmpl.split = some split →
          s.openSlot l k =
            (built.1.setPort l (({ p.atSlot s.now k with
              eventCount := 0
              snapshot := some
                { template := slot.template, payload := (built.2.drop split.toNat).flatten,
                  receiverAddress := tmpl.tailAddress, stepTag := s.batch.currentTag } }).sending s.now s.summary 0x02
              tmpl.receiverAddress s.batch.currentTag (built.2.take split.toNat).flatten)).reevaluate)

/-- A computation of a FIELD route (R48 to R53, R56, R58, R110, R111): the held value goes to its target, or toward it
by exactly the nonzero limit that the distance exceeds; the peak register is cleared, the settled and converged marks
brought up to date, a clip of an ANALOG route noted; nothing else changes. A template's build computes each of its
FIELD routes once, from the one state of the build, and no other route; CLIPPED and the last clipped id are those of
the clips of the build, the highest position last; the fields lie in the order of the positions, each encoded from the
held value by the class of its source, a position that no route fills carrying zeros at its width (R52, R54 to R56,
R59, R60). -/
def Obligations.BuildComputesTheFieldsOfOneInstant : Prop :=
  (∀ (id : RouteId) (s : State),
    let x := s.route id
    let r := x.record
    let u := s.computeField id
    let y := u.route id
    let f := s.freeze.state
    let limit := if f = .run then r.slew.toNat else r.freezeSlew.toNat
    let target := if f = .run ∨ f = .resuming then s.clamped id else r.neutral.toInt
    let gap := target - x.held.toInt
    let pattern := (s.cue (cueOfByte r.sourceA)).effective &&& r.careMask
    y.record = r ∧ y.armed = x.armed ∧ y.peak = none ∧ (∀ k, k ≠ id → u.route k = s.route k)
      ∧ (y.settled = true ↔ r.kind = .field ∧ y.held = r.neutral)
      ∧ (¬ s.Clips id → u = { s with routes := u.routes })
      ∧ (s.Clips id → u = { s with routes := u.routes, flags := { s.flags with clipped := true }, lastClipped := id })
      ∧ (s.sourceClass r = .analog →
          (limit = 0 ∨ gap.natAbs ≤ limit → y.held.toInt = target)
            ∧ (limit ≠ 0 → (limit : Int) < gap → y.held.toInt = x.held.toInt + limit)
            ∧ (limit ≠ 0 → gap < -(limit : Int) → y.held.toInt = x.held.toInt - limit)
            ∧ (y.converged = true ↔ x.converged = true ∨ (f = .resuming
                ∧ (r.freezeSlew.toNat = 0 ∨ (s.clamped id - x.held.toInt).natAbs ≤ r.freezeSlew.toNat))))
      ∧ (s.sourceClass r = .switch →
          y.held = (if f = .run ∨ f = .resuming then pattern else r.neutral)
            ∧ (y.converged = true ↔ x.converged = true ∨ f = .resuming)))
    ∧ ∀ (l : LinkId) (t : BitVec 2) (s : State), s.FieldPositionsLawful →
    let tmpl := (s.port l).template t
    let built := s.buildTemplate l t
    let order := (s.port l).settings.order
    (∀ id, s.InTemplate l t id → built.1.route id = (s.computeField id).route id)
      ∧ (∀ id, ¬ s.InTemplate l t id → built.1.route id = s.route id)
      ∧ built.2.length = tmpl.fields
      ∧ (∀ id, s.InTemplate l t id →
          let position := (s.route id).record.position.toNat
          let sent := (built.1.route id).held
          (s.sourceClass (s.route id).record = .analog →
              built.2[position]? = some (encodeAnalog (tmpl.isWide position) order sent))
            ∧ (s.sourceClass (s.route id).record = .switch →
                built.2[position]? = some (encodeSwitch (tmpl.isWide position) order sent)))
      ∧ (∀ i, i < tmpl.fields → (∀ id, (s.route id).record.fills l t i = false) →
          built.2[i]? = some (if tmpl.isWide i then [0, 0] else [0]))
      ∧ (built.1.flags.clipped = true ↔ s.flags.clipped = true ∨ ∃ id, s.InTemplate l t id ∧ s.Clips id)
      ∧ ((∀ id, s.InTemplate l t id → ¬ s.Clips id) → built.1.lastClipped = s.lastClipped)
      ∧ (∀ id, s.InTemplate l t id → s.Clips id →
          (∀ k, s.InTemplate l t k → s.Clips k →
            (s.route k).record.position.toNat ≤ (s.route id).record.position.toNat) →
          built.1.lastClipped = id)
      ∧ built.1 = { s with routes := built.1.routes, flags := { s.flags with clipped := built.1.flags.clipped },
                           lastClipped := built.1.lastClipped }

/-- TRANSMIT_COMPLETE clears the transmitting mark at the end of the frame's time (R98); that without a frame on the
line it changes nothing is the model's choice, log entry 13, and that it moves the time base to that end is log entry
2. -/
def Obligations.TransmitCompleteFreesTheLine : Prop :=
  ∀ (l : LinkId) (s : State),
    (∀ x, (s.port l).line = some x →
        exec (.transmitComplete l) s =
          .next (({ s with now := max s.now x.complete }).setPort l { s.port l with line := none }))
      ∧ ((s.port l).line = none → exec (.transmitComplete l) s = .next s)

/-! ### Symbols and frames received -/

/-- The lines of a link by its state (R118). Its transmitter holds the line quiet in OFF and sends idle fill in
STARTING, HALTED and DOWN and between frames in RUNNING. LINE_SYMBOL_RECEIVED at its receiver: an OFF link ignores its
line, and in the other states a valid symbol ends the silence and at a STARTING link anything but idle fill clears the
idle-run mark and breaks the fill (R122, R125). `heard` and `fill` are the model's own memory, log entry 5; that a
frame on the line is held whole is log entry 7. -/
def Obligations.LinesFollowTheLinkState : Prop :=
  ∀ (l : LinkId) (y : LineSymbol) (s : State),
    ((s.port l).state = .off → s.transmits l = .quiet)
      ∧ ((s.port l).state = .starting ∨ (s.port l).state = .halted ∨ (s.port l).state = .down →
          s.transmits l = .idleFill)
      ∧ ((s.port l).state = .running → (s.port l).line = none → s.transmits l = .idleFill)
      ∧ (∀ x, (s.port l).state = .running → (s.port l).line = some x → s.transmits l = .frame x.bytes)
      ∧ ((s.port l).state = .off → exec (.lineSymbolReceived l y) s = .next s)
      ∧ ((s.port l).state ≠ .off → y = .idleFill →
          exec (.lineSymbolReceived l y) s = .next (s.setPort l ((s.port l).hearing true true)))
      ∧ ((s.port l).state ≠ .off → y = .data ∨ y = .frameStart →
          exec (.lineSymbolReceived l y) s = .next (s.setPort l ((s.port l).hearing true false)))
      ∧ ((s.port l).state ≠ .off → y = .invalid ∨ y = .fillBreak →
          exec (.lineSymbolReceived l y) s = .next (s.setPort l ((s.port l).hearing false false)))

/-- A frame that arrives in OFF is ignored whole; in HALTED and DOWN its symbol alone is heard, with no check, flag or
hand-off (R118, R124, R125). A passing frame of a kind the link does not take is discarded with WRONG_KIND, its
sequence taken (R130). That a request row is such a frame, and so is ignored in OFF, HALTED and DOWN, is the model's
reading, log entry 6; that a whole frame is one heard symbol is its choice, log entries 5 and 7. -/
def Obligations.FramesNotTaken : Prop :=
  ∀ (s : State),
    (∀ (c : Instr) (seq : Byte), requestSeq c = some seq →
        ((s.port .d).state = .off → exec c s = .next s)
          ∧ ((s.port .d).state = .halted ∨ (s.port .d).state = .down →
              exec c s = .next (s.setPort .d ((s.port .d).hearing true false))))
      ∧ (∀ (l : LinkId) (bytes : List Byte),
          ((s.port l).state = .off → exec (.frameReceived l bytes) s = .next s)
            ∧ ((s.port l).state = .halted ∨ (s.port l).state = .down →
                exec (.frameReceived l bytes) s = .next (s.setPort l ((s.port l).hearing true false))))
      ∧ (∀ (l : LinkId) (bytes : List Byte) (f : Frame), Frame.ofBytes bytes = some f → s.inSequence l f.seq →
          f.kind ≠ 0x06 → ¬ (f.kind = 0x07 ∧ l = .d) →
          exec (.frameReceived l bytes) s = .next (s.setPort l
            { (s.port l).took f.seq with flags := { (s.port l).flags with wrongKind := true } }))

/-- A frame that passes its check in STARTING takes the link to RUNNING first and is then handled as the first frame
received there (R122). A frame out of sequence is used like one in sequence, once SEQ_GAP is set and, on Link D, an
open batch torn (R34, R129). That a request row is such a frame is the model's reading, log entry 6; that a whole
frame is one heard symbol is its choice, log entries 5 and 7. -/
def Obligations.FirstFramesAndGappedFramesAreUsed : Prop :=
  ∀ (c : Instr) (l : LinkId) (seq : Byte) (s : State),
    ((l = .d ∧ requestSeq c = some seq)
        ∨ (∃ bytes f, c = .frameReceived l bytes ∧ Frame.ofBytes bytes = some f ∧ f.seq = seq)) →
    ((s.port l).state = .starting →
        exec c s = exec c ((s.setPort l ((s.port l).hearing true false)).enterRunning l))
      ∧ (∀ q, (s.port l).state = .running → (s.port l).receiveSeq = some q → seq ≠ q + 1 →
          let gapped := s.setPort l
            { s.port l with receiveSeq := some (seq - 1), flags := { (s.port l).flags with seqGap := true } }
          exec c s = exec c (if l = .d then gapped.tearBatch else gapped))

/-- A frame that fails its check, ended early or whole, sets CHECK_ERR on a RUNNING link and leaves its receive
sequence; on Link D it tears an open batch; on a board link with halt-on-check it halts the link with its silence
count at 0; out of RUNNING it is discarded without a flag, and at a STARTING link it has broken the idle fill,
whatever symbol ends it (R34, R118, R122, R124, R128). That a byte string which does not make up its own length is
such a frame, and that a frame is one heard symbol, are the model's choices, log entries 7 and 5. That the walk
position of the halted link stands is its choice too, log entry 23. -/
def Obligations.CheckFailures : Prop :=
  ∀ (l : LinkId) (cause : EarlyEnd) (s : State),
    let p := ((s.port l).hearing false false).hearing (decide (cause ≠ .invalid)) (decide (cause = .idleFill))
    let flagged := { p.flags with checkErr := true }
    ((s.port l).state = .off → exec (.frameEndedEarly l cause) s = .next s)
      ∧ ((s.port l).state ≠ .off → (s.port l).state ≠ .running →
          exec (.frameEndedEarly l cause) s = .next (s.setPort l p))
      ∧ ((s.port l).state = .running → l = .d →
          exec (.frameEndedEarly l cause) s = .next (s.setPort l { p with flags := flagged }).tearBatch)
      ∧ ((s.port l).state = .running → l ≠ .d → (s.port l).settings.haltOnCheck = false →
          exec (.frameEndedEarly l cause) s = .next (s.setPort l { p with flags := flagged }))
      ∧ ((s.port l).state = .running → l ≠ .d → (s.port l).settings.haltOnCheck = true →
          exec (.frameEndedEarly l cause) s =
            .next (s.setPort l { p.stopped .halted with flags := flagged, silence := 0 }).reevaluate)
      ∧ (∀ bytes, Frame.ofBytes bytes = none →
          exec (.frameReceived l bytes) s = exec (.frameEndedEarly l .excessLength) s)

/-! ### Cue updates -/

/-- An UPDATE frame in sequence on a board link commits its accepted cues at once under the current step tag, the last
pair of a cue winning, and flags the pairs of cues the link does not own; the route engine then takes the notice of
exactly the committed cues (R39); the batch unit, the management unit and the freeze controller stand (R22 to R25). An
UPDATE payload is a run of pairs of three bytes, a cue index and a value (R22, R133). That the frame's arrival is one
heard symbol is the model's choice, log entries 5 and 7. -/
def Obligations.BoardUpdateCommitsItsOwnCues : Prop :=
  (∀ payload : List Byte, payload.length % 3 = 0 →
      (pairsOf payload).length = payload.length / 3
        ∧ ∀ i w, (pairsOf payload)[i]? = some w →
            w.1.val = (byteAt payload (3 * i)).toNat ∧ w.2 = wordAt payload (3 * i + 1))
    ∧ ∀ (l : LinkId) (bytes : List Byte) (f : Frame) (s : State),
    l ≠ .d → Frame.ofBytes bytes = some f → f.kind = 0x06 → s.inSequence l f.seq →
    ∃ t, exec (.frameReceived l bytes) s = .next t
      ∧ (∀ c, t.cue c =
          match s.broughtBy l f.payload c with
          | some v => (s.cue c).committed v s.batch.currentTag
          | none => s.cue c)
      ∧ (t.port l).receiveSeq = some f.seq
      ∧ ((t.port l).flags.ownerMismatch = true ↔
          (s.port l).flags.ownerMismatch = true ∨ ∃ w ∈ pairsOf f.payload, (s.cue w.1).config.owner ≠ some l)
      ∧ t = { s with cues := t.cues, routes := t.routes, ports := t.ports,
                     flags := { s.flags with clipped := t.flags.clipped }, lastClipped := t.lastClipped }
      ∧ (∀ id, (t.route id).record = (s.route id).record ∧ (t.route id).held = (s.route id).held)
      ∧ ∃ (mismatch : Bool) (cues : List CueId),
          (mismatch = true ↔
              (s.port l).flags.ownerMismatch = true ∨ ∃ w ∈ pairsOf f.payload, (s.cue w.1).config.owner ≠ some l)
            ∧ cues.Nodup ∧ (∀ c, c ∈ cues ↔ s.commits l f c ≠ none)
            ∧ t = (({ s with cues := t.cues }).setPort l { (s.port l).took f.seq with
                flags := { (s.port l).flags with ownerMismatch := mismatch } }).takeNotice cues

/-- An UPDATE frame in sequence on Link D acts on the batch unit by its OPEN and CLOSE bits and the batch state (R27
to R32): plain update, opening, continuation, closing, self-contained batch, each with the tear of an open batch that
an OPEN bit brings. The route engine then takes the notice of exactly the committed cues, under the current step tag
that the commit leaves (R39). That the frame's arrival is one heard symbol is the model's choice, log entries 5 and 7.
-/
def Obligations.LinkDUpdateActsOnTheBatch : Prop :=
  ∀ (bytes : List Byte) (f : Frame) (s : State),
    Frame.ofBytes bytes = some f → f.kind = 0x06 → s.inSequence .d f.seq →
    ∃ t, exec (.frameReceived .d bytes) s = .next t
      ∧ (f.control.getLsbD 1 = false → s.batch.isOpen = false →
          t.batch = s.batch ∧ t.flags.stepTorn = s.flags.stepTorn
            ∧ ∀ c, t.cue c =
                match s.broughtBy .d f.payload c with
                | some v => (s.cue c).committed v s.batch.currentTag
                | none => s.cue c)
      ∧ (f.control.getLsbD 1 = true → f.control.getLsbD 2 = false →
          t.batch = { isOpen := true, openTag := f.stepTag, timer := some 0, currentTag := s.batch.currentTag }
            ∧ t.flags.stepTorn = (s.flags.stepTorn || s.batch.isOpen)
            ∧ ∀ c, t.cue c =
                match s.broughtBy .d f.payload c with
                | some v => { s.cue c with pending := some v }
                | none => if s.batch.isOpen then { s.cue c with pending := none } else s.cue c)
      ∧ (f.control.getLsbD 1 = false → f.control.getLsbD 2 = false → s.batch.isOpen = true →
          t.batch = s.batch ∧ t.flags.stepTorn = s.flags.stepTorn
            ∧ ∀ c, t.cue c =
                match s.broughtBy .d f.payload c with
                | some v => { s.cue c with pending := some v }
                | none => s.cue c)
      ∧ (f.control.getLsbD 1 = false → f.control.getLsbD 2 = true → s.batch.isOpen = true →
          t.batch = { isOpen := false, openTag := s.batch.openTag, timer := none, currentTag := s.batch.openTag }
            ∧ t.flags.stepTorn = s.flags.stepTorn
            ∧ ∀ c, t.cue c =
                match (s.broughtBy .d f.payload c).or (s.cue c).pending with
                | some v => (s.cue c).committed v s.batch.openTag
                | none => s.cue c)
      ∧ (f.control.getLsbD 1 = true → f.control.getLsbD 2 = true →
          t.batch = { isOpen := false, openTag := f.stepTag, timer := none, currentTag := f.stepTag }
            ∧ t.flags.stepTorn = (s.flags.stepTorn || s.batch.isOpen)
            ∧ ∀ c, t.cue c =
                match s.broughtBy .d f.payload c with
                | some v => (s.cue c).committed v f.stepTag
                | none => if s.batch.isOpen then { s.cue c with pending := none } else s.cue c)
      ∧ t = { s with cues := t.cues, batch := t.batch, routes := t.routes, ports := t.ports,
                     flags := { s.flags with clipped := t.flags.clipped, stepTorn := t.flags.stepTorn }
                     lastClipped := t.lastClipped }
      ∧ ∃ (mismatch : Bool) (cues : List CueId),
          (mismatch = true ↔
              (s.port .d).flags.ownerMismatch = true ∨ ∃ w ∈ pairsOf f.payload, (s.cue w.1).config.owner ≠ some .d)
            ∧ cues.Nodup ∧ (∀ c, c ∈ cues ↔ s.commits .d f c ≠ none)
            ∧ t = (({ s with
                cues := t.cues, batch := t.batch, flags := { s.flags with stepTorn := t.flags.stepTorn } }).setPort .d
                { (s.port .d).took f.seq with
                  flags := { (s.port .d).flags with ownerMismatch := mismatch } }).takeNotice cues

/-- At a commit of any link, of Link D's plain updates, batch closings and self-contained batches too, the peak
register of every FIELD route of combine PEAK whose source A the commit covers becomes the new effective value, or
stays when it is of greater magnitude; no other FIELD route changes at all, nor does any at a frame that only makes
values pending (R57). That the magnitudes of a SWITCH source's patterns are those of signed numbers is the model's
reading, log entry 11. -/
def Obligations.PeakRegistersFollowCommits : Prop :=
  ∀ (l : LinkId) (bytes : List Byte) (f : Frame) (s t : State) (id : RouteId),
    Frame.ofBytes bytes = some f → f.kind = 0x06 → s.inSequence l f.seq →
    exec (.frameReceived l bytes) s = .next t → (s.route id).record.kind = .field →
    let a : CueId := cueOfByte (s.route id).record.sourceA
    ((s.route id).record.combine = .peak → s.commits l f a ≠ none →
        t.route id = { s.route id with peak := some ((s.route id).peakWith (t.cue a).effective) })
      ∧ ((s.route id).record.combine ≠ .peak ∨ s.commits l f a = none → t.route id = s.route id)

/-! ### Event routes, event queues and the transform -/

/-- An evaluation in FREEZING or FROZEN, or on a link out of RUNNING, is skipped whole (R66). One of an ANALOG source
tests its threshold, noting a clip and offering its record when it fires (R52, R62, R67, R68, R71). One of a SWITCH
source fires when the cared bits of value and previous differ, with the cared bits of the effective value, and never
touches the armed flag (R69). A commit notice first updates the peak registers of its sources (R57; the magnitudes of
a SWITCH source's patterns are those of signed numbers by the model's reading, log entry 11), then evaluates each
EVENT route it concerns once, in the order of the ids: those whose source A it lists or, with an ANALOG source A,
whose source B (R39, R66). -/
def Obligations.EventRoutesFireAtTheirConditions : Prop :=
  (∀ (id : RouteId) (s : State),
      s.freeze.state = .freezing ∨ s.freeze.state = .frozen ∨ (s.port (s.route id).record.link).state ≠ .running →
      s.evaluate id = s)
    ∧ (∀ (id : RouteId) (s : State),
      let x := s.route id
      let r := x.record
      let y4 := s.limited r none
      let base := if s.clipsNow r none then { s with flags := { s.flags with clipped := true }, lastClipped := id } else s
      let fired : CueEvent :=
        { route := id, cue := r.sourceA, eventClass := r.eventClass, value := BitVec.ofInt 16 y4,
          stepTag := s.batch.currentTag, receiverAddress := r.receiverAddress, eligible := s.now + 100 }
      let T := r.threshold.toInt
      let H : Int := r.hysteresis.toNat
      s.freeze.state = .run ∨ s.freeze.state = .resuming → (s.port r.link).state = .running → s.sourceClass r = .analog →
        (r.direction = .rising → x.armed = true → T ≤ y4 →
            s.evaluate id = (base.setRoute id { x with armed := false }).offerCueEvent r.link fired)
          ∧ (r.direction = .rising → x.armed = true → y4 < T → s.evaluate id = base)
          ∧ (r.direction = .rising → x.armed = false → y4 < T - H →
              s.evaluate id = base.setRoute id { x with armed := true })
          ∧ (r.direction = .rising → x.armed = false → T - H ≤ y4 → s.evaluate id = base)
          ∧ (r.direction = .falling → x.armed = true → y4 ≤ T →
              s.evaluate id = (base.setRoute id { x with armed := false }).offerCueEvent r.link fired)
          ∧ (r.direction = .falling → x.armed = true → T < y4 → s.evaluate id = base)
          ∧ (r.direction = .falling → x.armed = false → T + H < y4 →
              s.evaluate id = base.setRoute id { x with armed := true })
          ∧ (r.direction = .falling → x.armed = false → y4 ≤ T + H → s.evaluate id = base))
    ∧ (∀ (cues : List CueId) (s : State), ∃ (ids : List RouteId) (u : State),
      ids.Pairwise (· < ·)
        ∧ (∀ id, id ∈ ids ↔
            let r := (s.route id).record
            r.kind = .event ∧ (cueOfByte r.sourceA ∈ cues
              ∨ (s.sourceClass r = .analog ∧ r.sourceBPresent = true ∧ cueOfByte r.sourceB ∈ cues)))
        ∧ u = { s with routes := u.routes }
        ∧ (∀ id,
            let x := s.route id
            let a := cueOfByte x.record.sourceA
            u.route id =
              if x.record.kind = .field ∧ x.record.combine = .peak ∧ a ∈ cues then
                { x with peak := some (x.peakWith (s.cue a).effective) }
              else x)
        ∧ s.takeNotice cues = ids.foldl (fun v id => v.evaluate id) u)
    ∧ ∀ (id : RouteId) (s : State),
      let r := (s.route id).record
      let e := s.cue (cueOfByte r.sourceA)
      s.freeze.state = .run ∨ s.freeze.state = .resuming → (s.port r.link).state = .running →
      s.sourceClass r = .switch →
        (e.value &&& r.careMask ≠ e.previous &&& r.careMask →
            s.evaluate id = s.offerCueEvent r.link
              { route := id, cue := r.sourceA, eventClass := r.eventClass, value := e.effective &&& r.careMask
                stepTag := s.batch.currentTag, receiverAddress := r.receiverAddress, eligible := s.now + 100 })
          ∧ (e.value &&& r.careMask = e.previous &&& r.careMask → s.evaluate id = s)

/-- An offered CUE_EVENT merges into the waiting record of its route, in place; else it joins a queue below 16 at the
tail; else it is dropped with EVENT_DROP (R73). An offered REPLY joins the queue of a RUNNING Link D below 16,
eligible at once; else it is lost with REPLY_LOST (R74). The result codes are 0 to 10 as R133 numbers them. -/
def Obligations.OffersMergeAppendOrDrop : Prop :=
  ∀ (l : LinkId) (e : CueEvent) (s : State),
    let q := (s.port l).queue
    ((∃ w, QueueRecord.cueEvent w ∈ q ∧ w.route = e.route) →
        ∃ q', s.offerCueEvent l e = s.setPort l { s.port l with queue := q' } ∧ q'.length = q.length
          ∧ ∀ i : Nat, q'[i]? = match q[i]? with
              | some (QueueRecord.cueEvent w) =>
                some (QueueRecord.cueEvent
                  (if w.route = e.route then { w with value := e.value, stepTag := e.stepTag } else w))
              | some (QueueRecord.reply r) => some (QueueRecord.reply r)
              | none => none)
      ∧ ((∀ w, QueueRecord.cueEvent w ∈ q → w.route ≠ e.route) → q.length < 16 →
          s.offerCueEvent l e = s.setPort l { s.port l with queue := q ++ [.cueEvent e] })
      ∧ ((∀ w, QueueRecord.cueEvent w ∈ q → w.route ≠ e.route) → 16 ≤ q.length →
          s.offerCueEvent l e =
            s.setPort l { s.port l with flags := { (s.port l).flags with eventDrop := true } })
      ∧ (∀ result : ResultCode, result.code.toNat = match result with
          | .ok => 0 | .notArmed => 1 | .busy => 2 | .isProtected => 3 | .locked => 4 | .badIndex => 5 | .badValue => 6
          | .positionTaken => 7 | .slotTooShort => 8 | .linkState => 9 | .unknownRequest => 10)
      ∧ (∀ tag code result count data,
          ((s.port .d).state = .running → (s.port .d).queue.length < 16 →
              s.offerReply tag code result count data = s.setPort .d { s.port .d with
                queue := (s.port .d).queue ++ [.reply
                  { tag := tag, code := code, result := result.code, count := BitVec.ofNat 8 count, data := data
                    eligible := s.now }] })
            ∧ ((s.port .d).state ≠ .running ∨ 16 ≤ (s.port .d).queue.length →
                s.offerReply tag code result count data = { s with flags := { s.flags with replyLost := true } }))

/-- Stage 2 divides the exact product by a power of two and rounds to the nearest whole number, halves away from zero
(R49). -/
def Obligations.ScalingRoundsHalvesAwayFromZero : Prop :=
  ∀ (g x : Int) (shift : Nat),
    let p := x * g
    let y := scaleStage g shift x
    (-65536 ≤ x → x ≤ 65535 → -32768 ≤ g → g ≤ 32767 →
        p.natAbs ≤ 2147483648 ∧ (p.natAbs = 2147483648 ↔ x = -65536 ∧ g = -32768))
      ∧ (shift = 0 → y = p)
      ∧ (0 < shift → y.natAbs = (p.natAbs + 2 ^ (shift - 1)) / 2 ^ shift ∧ (0 ≤ p → 0 ≤ y) ∧ (p ≤ 0 → y ≤ 0))
      ∧ 2 * (2 ^ shift * y - p).natAbs ≤ 2 ^ shift
      ∧ (2 * (2 ^ shift * y - p).natAbs = 2 ^ shift → p.natAbs < 2 ^ shift * y.natAbs)
      ∧ scaleStage (-g) shift x = -y
      ∧ (g = 2 ^ shift → y = x)

/-- Stage 3 sends a magnitude within the band to 0 and moves every other number toward zero by the band, so that the
output never steps by more than its input (R50); an 8-bit field carries the value scaled down by 256, halves away from
zero, saturated, in two's complement (R55). A 16-bit field carries its two bytes in the link's byte order (R54), and
an 8-bit field of a SWITCH route the low byte of the pattern (R56). -/
def Obligations.DeadbandAndFieldEncodings : Prop :=
  (∀ (band : Nat) (y1 : Int),
    (y1.natAbs ≤ band → deadbandStage band y1 = 0)
      ∧ ((band : Int) < y1 → deadbandStage band y1 = y1 - band)
      ∧ (y1 < -(band : Int) → deadbandStage band y1 = y1 + band)
      ∧ (deadbandStage band (y1 + 1) = deadbandStage band y1 ∨ deadbandStage band (y1 + 1) = deadbandStage band y1 + 1)
      ∧ deadbandStage 0 y1 = y1 ∧ deadbandStage 200 201 = 1)
    ∧ (∀ (h lo : Byte) (order : ByteOrder),
      encodeAnalog true .big (h ++ lo) = [h, lo] ∧ encodeAnalog true .little (h ++ lo) = [lo, h]
        ∧ encodeSwitch true .big (h ++ lo) = [h, lo] ∧ encodeSwitch true .little (h ++ lo) = [lo, h]
        ∧ encodeSwitch false order (h ++ lo) = [lo])
    ∧ ∀ (w : Word) (order : ByteOrder),
      let n := narrowValue w.toInt
      encodeAnalog false order w = [BitVec.ofInt 8 n] ∧ (BitVec.ofInt 8 n).toInt = n
        ∧ (32640 ≤ w.toInt → n = 127)
        ∧ (w.toInt < 32640 → n.natAbs = (w.toInt.natAbs + 128) / 256)
        ∧ (0 ≤ w.toInt → 0 ≤ n) ∧ (w.toInt ≤ 0 → n ≤ 0)
        ∧ [narrowValue 32767, narrowValue 32640, narrowValue 32639, narrowValue 10500, narrowValue 128,
            narrowValue 127, narrowValue (-127), narrowValue (-128), narrowValue (-32768)] =
          [127, 127, 127, 41, 1, 0, 0, -1, -128]

/-- However a slot opens (an expiry, an edge, start-up by idle fill or a first frame, a plan write's restart, a tick),
a FIELD route of an ANALOG source stays in its range, and while the limit in force is nonzero its held value moves by
no more than that limit, so by no more than a nonzero slew L (R53, R113). A limit of 0 is none: with F = 0 nothing
bounds the move in FREEZING, FROZEN and RESUMING. A tick may change the freeze state between its parts (log entry 4),
so for it the bound is stated by L, with L and F nonzero. -/
def Obligations.SlotOpensMoveRoutesWithinTheirLimit : Prop :=
  ∀ (l : LinkId) (k : Fin 6) (order : List TickPart) (s t : State) (id : RouteId),
    s.AnalogRoutesBounded → s.FieldPositionsLawful →
    (s.route id).record.kind = .field → s.sourceClass (s.route id).record = .analog →
    let r := (s.route id).record
    let limit := match s.freeze.state with
      | .run => r.slew.toNat
      | .freezing | .frozen | .resuming => r.freezeSlew.toNat
    let moved := ((t.route id).held.toInt - (s.route id).held.toInt).natAbs
    let inRange := (t.route id).record = r
      ∧ r.lo.toInt ≤ (t.route id).held.toInt ∧ (t.route id).held.toInt ≤ r.hi.toInt
    (t = s.openSlot l k ∨ t = s.enterRunning l ∨ t = s.restartWalk l ∨ exec (.slotTimerExpiry l) s = .next t
        ∨ exec (.syncEdge l) s = .next t ∨ exec (.idleFillStartUp l) s = .next t →
        inRange ∧ (limit ≠ 0 → moved ≤ limit) ∧ (limit ≠ 0 → r.slew.toNat ≠ 0 → moved ≤ r.slew.toNat))
      ∧ (exec (.millisecondTick order) s = .next t →
          inRange ∧ (r.freezeSlew.toNat ≠ 0 → r.slew.toNat ≠ 0 → moved ≤ r.slew.toNat))

/-! ### Requests

A request is stated by its row, which stands for the arrival of its REQUEST frame on a RUNNING Link D (log entry 6). -/

/-- ARM, DISARM and RESET_ARM: each answers OK and sets or clears its latch; ARM keeps the partial-record buffer, the
others empty it (R140, R142, R151). -/
def Obligations.LatchRequestsSetTheirLatch : Prop :=
  ∀ (seq tag : Byte) (args : List Byte) (s : State), s.readyFor seq →
    exec (.arm seq tag args) s = .next
        { s with ports := { s.ports with d := s.ports.d.answered seq (plainReply tag 0x01 0 s.now) }
                 management := { s.management with armLatch := true, resetArm := false } }
      ∧ exec (.disarm seq tag args) s = .next
        { s.afterRequest seq (plainReply tag 0x02 0 s.now) with
          management := { s.management.cleared with armLatch := false } }
      ∧ exec (.resetArm seq tag args) s = .next
        { s.afterRequest seq (plainReply tag 0x10 0 s.now) with
          management := { s.management.cleared with resetArm := true } }

/-- An unknown code is answered UNKNOWN_REQUEST, a payload of fewer than two bytes BAD_VALUE with code 0 and with tag
0 where it has none, a LINK whose action is above 2 BAD_INDEX or BAD_VALUE by its link number; none does any work
(R137, R139). -/
def Obligations.RequestsWithoutWorkAreRefused : Prop :=
  ∀ (seq tag code n action : Byte) (args extra : List Byte) (s : State), s.readyFor seq →
    (requestCodeIsKnown code = false →
        exec (.unknownRequest seq tag code args) s = .next (s.afterRequest seq (plainReply tag code 10 s.now)))
      ∧ exec (.shortRequestPayload seq (some tag)) s = .next (s.afterRequest seq (plainReply tag 0 6 s.now))
      ∧ exec (.shortRequestPayload seq none) s = .next (s.afterRequest seq (plainReply 0 0 6 s.now))
      ∧ (2 < action.toNat → 3 < n.toNat →
          exec (.linkBadAction seq tag n action extra) s = .next (s.afterRequest seq (plainReply tag 0x0C 5 s.now)))
      ∧ (2 < action.toNat → n.toNat ≤ 3 →
          exec (.linkBadAction seq tag n action extra) s = .next (s.afterRequest seq (plainReply tag 0x0C 6 s.now)))

/-- STATUS answers OK with count 1 and the 38-byte record, taken before its own reply is offered, with the reset arm
as it stood at the arrival (R134, R154); a link's stale count is the number of the cues it owns that are HELD, FADING
or RESTED (R14). The summary byte tells the freeze state, the open batch, a FILL in flight, any global sticky flag and
the PRESSURE of any link (R132, R156). -/
def Obligations.StatusAndSummaryReportThePart : Prop :=
  (∀ s : State,
    let b := s.summary
    (b.extractLsb' 6 2).toNat =
        (match s.freeze.state with | .run => 0 | .freezing => 1 | .frozen => 2 | .resuming => 3)
      ∧ b.getLsbD 5 = s.batch.isOpen ∧ b.getLsbD 4 = s.management.fill.isSome
      ∧ (b.getLsbD 3 = true ↔ s.flags.stepTorn = true ∨ s.flags.stepTimeout = true ∨ s.flags.freezeLate = true
          ∨ s.flags.resumeLate = true ∨ s.flags.replyLost = true ∨ s.flags.partialDiscarded = true
          ∨ s.flags.clipped = true)
      ∧ (b.getLsbD 2 = true ↔ ∃ l, 16 - (s.port l).settings.almostFull ≤ (s.port l).queue.length)
      ∧ b.getLsbD 1 = false ∧ b.getLsbD 0 = false)
    ∧ ∀ (seq tag : Byte) (args : List Byte) (s : State), s.readyFor seq → ∃ data : List Byte,
    exec (.status seq tag args) s = .next (s.afterRequest seq
        { tag := tag, code := 0x03, result := 0, count := 1, data := data, eligible := s.now })
      ∧ data.length = 38
      ∧ (byteAt data 0).toNat =
          (match s.freeze.state with | .run => 0 | .freezing => 1 | .frozen => 2 | .resuming => 3)
      ∧ byteAt data 1 = (if s.batch.isOpen then 1 else 0)
      ∧ wordAt data 2 = s.batch.openTag ∧ wordAt data 4 = s.batch.currentTag
      ∧ (byteAt data 6).getLsbD 0 = s.management.armLatch ∧ (byteAt data 6).getLsbD 1 = s.management.resetArm
      ∧ (byteAt data 6).getLsbD 2 = s.management.fill.isSome ∧ (byteAt data 6).getLsbD 3 = s.management.limitLock
      ∧ (byteAt data 6).getLsbD 4 = decide (s.management.side = .high)
      ∧ wordAt data 7 = BitVec.ofNat 16 s.management.fillNext
      ∧ wordAt data 9 = BitVec.ofNat 16 s.management.boundary
      ∧ (byteAt data 11).getLsbD 0 = s.flags.stepTorn ∧ (byteAt data 11).getLsbD 1 = s.flags.stepTimeout
      ∧ (byteAt data 11).getLsbD 2 = s.flags.freezeLate ∧ (byteAt data 11).getLsbD 3 = s.flags.resumeLate
      ∧ (byteAt data 11).getLsbD 4 = s.flags.replyLost
      ∧ (byteAt data 11).getLsbD 5 = (s.flags.discarding s.management).partialDiscarded
      ∧ (byteAt data 11).getLsbD 6 = s.flags.clipped
      ∧ wordAt data 12 = BitVec.ofNat 16 s.lastClipped.val
      ∧ ∀ l : LinkId,
          let at_ := 14 + 6 * l.number
          let f := (s.port l).flags
          (byteAt data at_).toNat =
              (match (s.port l).state with | .off => 0 | .starting => 1 | .running => 2 | .halted => 3 | .down => 4)
            ∧ (wordAt data (at_ + 1)).getLsbD 0 = f.checkErr ∧ (wordAt data (at_ + 1)).getLsbD 1 = f.seqGap
            ∧ (wordAt data (at_ + 1)).getLsbD 2 = f.ownerMismatch ∧ (wordAt data (at_ + 1)).getLsbD 3 = f.wrongKind
            ∧ (wordAt data (at_ + 1)).getLsbD 4 = f.slotOverrun ∧ (wordAt data (at_ + 1)).getLsbD 5 = f.tailOrphan
            ∧ (wordAt data (at_ + 1)).getLsbD 6 = f.eventDrop ∧ (wordAt data (at_ + 1)).getLsbD 7 = f.startTimeout
            ∧ (wordAt data (at_ + 1)).getLsbD 8 = f.signalLost
            ∧ (byteAt data (at_ + 3)).getLsbD 7 =
                decide (16 - (s.port l).settings.almostFull ≤ (s.port l).queue.length)
            ∧ (byteAt data (at_ + 3)).extractLsb' 0 5 = BitVec.ofNat 5 (s.port l).queue.length
            ∧ wordAt data (at_ + 4) = BitVec.ofNat 16 (s.staleCues l).length

/-- CURSOR moves the cursor to a place inside its table, or is refused with BAD_VALUE or BAD_INDEX; either way the
reply carries the cursor report and the mode stands (R139, R141). The tables have the codes 0 to 5, the sizes 256,
384, 16, 4, 4 and 1 and the record lengths 14, 30, 7, 24, 6 and 6 of the table at the head of chapter 8; a code above
5 names none. -/
def Obligations.CursorMovesInsideItsTable : Prop :=
  (∀ (b : Byte) (t : TableId), TableId.ofCode b = some t ↔ b = t.code)
    ∧ (∀ b : Byte, TableId.ofCode b = none ↔ 5 < b.toNat)
    ∧ (∀ t : TableId, (t.code.toNat, t.size, t.recordBytes) = match t with
        | .cue => (0, 256, 14) | .route => (1, 384, 30) | .template => (2, 16, 7) | .plan => (3, 4, 24)
        | .link => (4, 4, 6) | .global => (5, 1, 6))
    ∧ ∀ (seq tag : Byte) (args : List Byte) (s : State), s.readyFor seq →
    let m := s.management.cleared
    let answer (result : Byte) (m' : Management) : State :=
      { s.afterRequest seq { tag := tag, code := 0x04, result := result, count := 0, data := m'.report
                             eligible := s.now } with management := m' }
    (args.length < 3 → exec (.cursor seq tag args) s = .next (answer 6 m))
      ∧ (3 ≤ args.length → TableId.ofCode (byteAt args 0) = none → exec (.cursor seq tag args) s = .next (answer 6 m))
      ∧ (∀ t, 3 ≤ args.length → TableId.ofCode (byteAt args 0) = some t → t.size ≤ (wordAt args 1).toNat →
          exec (.cursor seq tag args) s = .next (answer 5 m))
      ∧ (∀ t, 3 ≤ args.length → TableId.ofCode (byteAt args 0) = some t → (wordAt args 1).toNat < t.size →
          exec (.cursor seq tag args) s =
            .next (answer 0 { m with cursorTable := t, cursorIndex := (wordAt args 1).toNat }))

/-- GET answers with the records from the cursor on, which advances and wraps, as many as asked and as fit in 48
bytes; the mode becomes READ; a count of 0 is refused with BAD_VALUE (R141, R144). Each record is the bytes of its
table's entry as it stands, a cue's with its status part (R20, R46, R83, R120); a template's index is link number × 4
+ template number. That a refused GET leaves the cursor mode is the model's choice, log entry 24. -/
def Obligations.GetReadsFromTheCursor : Prop :=
  (∀ s : State,
    (∀ c : CueId, s.readRecord .cue c.val = (s.cue c).toBytes)
      ∧ (∀ id : RouteId, s.readRecord .route id.val = (s.route id).record.toBytes)
      ∧ (∀ (l : LinkId) (t : BitVec 2),
          s.readRecord .template (l.number * 4 + t.toNat) = ((s.port l).template t).toBytes)
      ∧ (∀ l : LinkId, s.readRecord .plan l.number = planBytes (s.port l).plan
          ∧ s.readRecord .link l.number = (s.port l).settings.toBytes)
      ∧ s.readRecord .global 0 = s.globals.toBytes)
    ∧ ∀ (seq tag : Byte) (args : List Byte) (s : State), s.readyFor seq →
    s.management.cursorIndex < s.management.cursorTable.size →
    let table := s.management.cursorTable
    let first := s.management.cursorIndex
    let n := min (byteAt args 0).toNat (48 / table.recordBytes)
    (args = [] ∨ byteAt args 0 = 0 →
        exec (.get seq tag args) s = .next (s.afterRequest seq (plainReply tag 0x06 6 s.now)))
      ∧ (args ≠ [] → byteAt args 0 ≠ 0 →
          exec (.get seq tag args) s = .next
            { s.afterRequest seq
                { tag := tag, code := 0x06, result := 0, count := BitVec.ofNat 8 n
                  data := (List.range n).flatMap fun i => s.readRecord table ((first + i) % table.size)
                  eligible := s.now } with
              management := { s.management.cleared with
                cursorIndex := (first + n) % table.size, cursorMode := .read } })

/-- PUT with the latch set and no FILL in flight takes its bytes after those of the buffer, any number of records:
each whole one is checked against the tables as the earlier ones left them and written at the cursor, which advances
and wraps; bytes too few for a record stay in the buffer. A refused record stops the PUT with its code, the count of
those written before it and an empty buffer, the cursor at its index. The mode becomes WRITE and the latch clear (R139
to R143). That the walks which written plans let go on restart after all the records, and before the reply is offered,
is the model's reading, log entry 9. -/
def Obligations.PutWritesAtTheCursor : Prop :=
  ∀ (seq tag : Byte) (args : List Byte) (s : State), s.readyFor seq →
    s.management.armLatch = true → s.management.fill = none →
    let table := s.management.cursorTable
    let n := table.recordBytes
    let bytes := s.management.partialRecord ++ args
    let m := { s.management with armLatch := false, resetArm := false, cursorMode := .write }
    let taken := { s with ports := { s.ports with d := s.ports.d.took seq }, management := m }
    let answered (u : State) (left : List Byte) (next : Nat) (result : ResultCode) (count : Nat) : State :=
      let placed := { u with management := { m with partialRecord := left, cursorIndex := next } }
      (if table = .plan then placed.restartWalks else placed).offerReply tag 0x05 result count placed.management.report
    ∀ (records : List (List Byte)) (rest : List Byte) (u : State) (next : Nat),
      bytes = records.flatten ++ rest → (∀ record ∈ records, record.length = n) →
      State.WritesRun table taken s.management.cursorIndex records u next →
      (rest.length < n → exec (.put seq tag args) s = .next (answered u rest next .ok records.length))
        ∧ (∀ code, n ≤ rest.length → u.writeRecord table next (rest.take n) = .error code →
            exec (.put seq tag args) s = .next (answered u [] next code records.length))

/-- FILL with the latch set and no FILL in flight: refused at its acceptance by the first failing check, or in flight
with its first write 2 µs on and no reply (R145). -/
def Obligations.FillIsAcceptedOrRefused : Prop :=
  ∀ (seq tag : Byte) (args : List Byte) (s : State), s.readyFor seq →
    s.management.armLatch = true → s.management.fill = none →
    let first := (wordAt args 1).toNat
    let count := (wordAt args 3).toNat
    let refused (code : Byte) : State :=
      { s.afterRequest seq (plainReply tag 0x07 code s.now) with
        management := { s.management.cleared with armLatch := false } }
    (args.length < 5 ∨ TableId.ofCode (byteAt args 0) = none → exec (.fill seq tag args) s = .next (refused 6))
      ∧ ∀ t, 5 ≤ args.length → TableId.ofCode (byteAt args 0) = some t →
          (args.length < 5 + t.recordBytes ∨ count = 0 → exec (.fill seq tag args) s = .next (refused 6))
            ∧ (5 + t.recordBytes ≤ args.length → count ≠ 0 → t.size ≤ first ∨ t.size < first + count →
                exec (.fill seq tag args) s = .next (refused 5))
            ∧ (5 + t.recordBytes ≤ args.length → count ≠ 0 → first + count ≤ t.size → t = .route →
                (∃ i, first ≤ i ∧ i < first + count ∧ s.management.protects i = true) →
                exec (.fill seq tag args) s = .next (refused 3))
            ∧ (5 + t.recordBytes ≤ args.length → count ≠ 0 → first + count ≤ t.size →
                (t = .route → ∀ i, first ≤ i → i < first + count → s.management.protects i = false) →
                exec (.fill seq tag args) s = .next
                  { s with
                    ports := { s.ports with d := s.ports.d.took seq }
                    flags := s.flags.discarding s.management
                    management := { s.management.cleared with
                      armLatch := false
                      fillNext := first
                      fill := some
                        { tag := tag, table := t, last := first + count - 1
                          record := (args.drop 5).take t.recordBytes, written := 0, due := s.now + 10 } } })

/-- FILL_WRITE writes the record at the next index at its mark: accepted, the run goes on 2 µs later or ends after its
last index with OK; refused, it ends with the code and the refused index (R146). That without a FILL in flight it
changes nothing is the model's choice, log entry 13, and that it moves the time base to its mark is log entry 2; that
a plan written restarts the walks before the reply is offered is its reading, log entry 9. That the rest of the
progress is dropped with the end of the run is its choice, log entry 26. -/
def Obligations.FillWritesGoOnOrEnd : Prop :=
  ∀ s : State,
    (s.management.fill = none → exec .fillWrite s = .next s)
      ∧ ∀ job, s.management.fill = some job →
          let at_ := { s with now := max s.now job.due }
          let next := s.management.fillNext
          let ended (u : State) (result : ResultCode) (written index : Nat) : State :=
            ({ u with management := { s.management with fill := none, fillNext := index } }).offerReply job.tag 0x07
              result (min written 255)
              [BitVec.ofNat 8 (written / 256), BitVec.ofNat 8 written, BitVec.ofNat 8 (index / 256), BitVec.ofNat 8 index]
          (∀ code, at_.writeRecord job.table next job.record = .error code →
              exec .fillWrite s = .next (ended at_ code job.written next))
            ∧ ∀ u, at_.writeRecord job.table next job.record = .ok u →
                let walked := if job.table = .plan then u.restartWalks else u
                (job.last ≤ next → exec .fillWrite s = .next (ended walked .ok (job.written + 1) (next + 1)))
                  ∧ (next < job.last → exec .fillWrite s = .next
                      { walked with management := { s.management with
                          fillNext := next + 1
                          fill := some { job with written := job.written + 1, due := job.due + 10 } } })

/-- OVERRIDE sets and RELEASE drops the override of one cue, and nothing else of it; arguments too short are refused
with BAD_VALUE (R15, R16). -/
def Obligations.OverrideAndReleaseTouchTheOverride : Prop :=
  ∀ (seq tag : Byte) (args : List Byte) (s : State), s.readyFor seq →
    let c := cueOfByte (byteAt args 0)
    (3 ≤ args.length → exec (.override seq tag args) s = .next
        ((s.afterRequest seq (plainReply tag 0x08 0 s.now)).setCue c { s.cue c with override := some (wordAt args 1) }))
      ∧ (args.length < 3 → exec (.override seq tag args) s = .next (s.afterRequest seq (plainReply tag 0x08 6 s.now)))
      ∧ (1 ≤ args.length → exec (.release seq tag args) s = .next
          ((s.afterRequest seq (plainReply tag 0x09 0 s.now)).setCue c { s.cue c with override := none }))
      ∧ (args = [] → exec (.release seq tag args) s = .next (s.afterRequest seq (plainReply tag 0x09 6 s.now)))

/-- FREEZE in RUN or RESUMING purges every CUE_EVENT record and enters FREEZING with its timer at 0, or FROZEN at once
when every counted route is settled; the reply joins after the purge (R78, R106, R112). RESUME in FROZEN or FREEZING
clears every converged mark and enters RESUMING with its timer at 0, or RUN at once when no route is counted (R107,
R112). In the other two states each answers OK and changes nothing. -/
def Obligations.FreezeAndResumeStartTheirRamps : Prop :=
  (∀ (seq tag : Byte) (args : List Byte) (s : State), s.readyFor seq →
      let reply := plainReply tag 0x0A 0 s.now
      let replies (q : List QueueRecord) : List QueueRecord := q.filter QueueRecord.isReply
      (s.freeze.state = .freezing ∨ s.freeze.state = .frozen →
          exec (.freeze seq tag args) s = .next (s.afterRequest seq reply))
        ∧ (s.freeze.state = .run ∨ s.freeze.state = .resuming →
            ∃ t, exec (.freeze seq tag args) s = .next t
              ∧ t = { s with ports := t.ports, freeze := t.freeze, management := s.management.cleared
                             flags := s.flags.discarding s.management }
              ∧ t.port .d = { (s.port .d).took seq with queue := replies (s.port .d).queue ++ [.reply reply] }
              ∧ (∀ l, l ≠ .d → t.port l = { s.port l with queue := replies (s.port l).queue })
              ∧ ((∀ id, s.Counted id → (s.route id).settled = true) → t.freeze = { state := .frozen, timer := none })
              ∧ ((∃ id, s.Counted id ∧ (s.route id).settled = false) →
                  t.freeze = { state := .freezing, timer := some 0 })))
    ∧ ∀ (seq tag : Byte) (args : List Byte) (s : State), s.readyFor seq →
      let reply := plainReply tag 0x0B 0 s.now
      (s.freeze.state = .run ∨ s.freeze.state = .resuming →
          exec (.resume seq tag args) s = .next (s.afterRequest seq reply))
        ∧ (s.freeze.state = .freezing ∨ s.freeze.state = .frozen →
            ∃ t, exec (.resume seq tag args) s = .next t
              ∧ t = { s.afterRequest seq reply with routes := t.routes, freeze := t.freeze }
              ∧ (∀ id, t.route id = { s.route id with converged := false })
              ∧ ((∀ id, ¬ s.Counted id) → t.freeze = { state := .run, timer := none })
              ∧ ((∃ id, s.Counted id) → t.freeze = { state := .resuming, timer := some 0 }))

/-- LINK START takes a link that is OFF, HALTED or DOWN and has a slot of nonzero length to STARTING; LINK STOP takes
a board link to OFF from any state; each is refused by the checks of R121 and R139 in their order. That the walk
position of a RUNNING link that is stopped stands is the model's choice, log entry 23. -/
def Obligations.LinkStartAndStop : Prop :=
  ∀ (seq tag n : Byte) (extra : List Byte) (s : State), s.readyFor seq →
    let answered (code : Byte) : State := s.afterRequest seq (plainReply tag 0x0C code s.now)
    (3 < n.toNat → exec (.linkStart seq tag n extra) s = .next (answered 5)
        ∧ exec (.linkStop seq tag n extra) s = .next (answered 5))
      ∧ ∀ l : LinkId, n.toNat = l.number →
          ((s.port l).state = .starting ∨ (s.port l).state = .running →
              exec (.linkStart seq tag n extra) s = .next (answered 9))
            ∧ ((s.port l).state ≠ .starting → (s.port l).state ≠ .running →
                (∀ k : Fin 6, (s.port l).plan[k.val].length = 0) →
                exec (.linkStart seq tag n extra) s = .next (answered 6))
            ∧ ((s.port l).state ≠ .starting → (s.port l).state ≠ .running →
                (∃ k : Fin 6, (s.port l).plan[k.val].length ≠ 0) →
                exec (.linkStart seq tag n extra) s = .next ((answered 0).setPort l
                  { s.port l with state := .starting, startTimer := 0, idleRun := false, fill := .absent }))
            ∧ (l = .d → exec (.linkStop seq tag n extra) s = .next (answered 9))
            ∧ (l ≠ .d → (s.port l).state = .running →
                exec (.linkStop seq tag n extra) s =
                  .next ((answered 0).setPort l ((s.port l).stopped .off)).reevaluate)
            ∧ (l ≠ .d → (s.port l).state ≠ .running →
                exec (.linkStop seq tag n extra) s =
                  .next ((answered 0).setPort l { s.port l with state := .off }))

/-- LINK RESET: the link out of RUNNING with its sequences, flags, scheduler and queue at their reset values and its
settings, templates and plan kept; its FIELD routes at N and its EVENT routes armed; the ramp re-evaluated. Of Link D
it tears an open batch and loses its own reply (R65, R116, R126). That the start timer, silence count and idle-run
mark of a board link stand is the model's choice, log entry 20. -/
def Obligations.LinkResetStartsTheLinkAfresh : Prop :=
  ∀ (seq tag n : Byte) (extra : List Byte) (s : State), s.readyFor seq →
    (3 < n.toNat → exec (.linkReset seq tag n extra) s = .next (s.afterRequest seq (plainReply tag 0x0C 5 s.now)))
      ∧ ∀ l : LinkId, n.toNat = l.number →
          ∃ t, exec (.linkReset seq tag n extra) s = .next t
            ∧ (∀ k, k ≠ l → k ≠ .d → t.port k = s.port k)
            ∧ (l ≠ .d → t.port .d = (s.port .d).answered seq (plainReply tag 0x0C 0 s.now))
            ∧ (let p := if l = .d then { (s.port l).took seq with startTimer := 0, idleRun := false, fill := .absent }
                 else s.port l
               t.port l = { p with
                 state := if l = .d then .starting else .off
                 receiveSeq := none, transmitSeq := 0, walk := none, slotTimer := none
                 flags := { checkErr := false, seqGap := false, ownerMismatch := false, wrongKind := false
                            slotOverrun := false, tailOrphan := false, eventDrop := false, startTimeout := false
                            signalLost := false }
                 eventCount := 0, snapshot := none, line := none, queue := [] })
            ∧ (∀ id, (s.route id).record.link = l → (s.route id).record.kind = .field →
                t.route id = (s.route id).restarted)
            ∧ (∀ id, (s.route id).record.link = l → (s.route id).record.kind = .event →
                t.route id = { s.route id with armed := true })
            ∧ (∀ id, (s.route id).record.link ≠ l ∨ (s.route id).record.kind = .off → t.route id = s.route id)
            ∧ (∀ c, t.cue c = if l = .d ∧ s.batch.isOpen = true then { s.cue c with pending := none } else s.cue c)
            ∧ t = { s with
                cues := t.cues, routes := t.routes, ports := t.ports, freeze := t.freeze
                management := s.management.cleared
                batch := if l = .d ∧ s.batch.isOpen = true then { s.batch with isOpen := false, timer := none } else s.batch
                flags := { s.flags.discarding s.management with
                  replyLost := s.flags.replyLost || decide (l = .d)
                  stepTorn := s.flags.stepTorn || (decide (l = .d) && s.batch.isOpen) } }
            ∧ t.freeze = ({ t with freeze := s.freeze }).reevaluate.freeze

/-- CLEAR clears the flags whose bits its nine bytes name and no others; a shorter selection is refused with BAD_VALUE
(R155). -/
def Obligations.ClearClearsTheNamedFlags : Prop :=
  ∀ (seq tag : Byte) (args : List Byte) (s : State), s.readyFor seq →
    (args.length < 9 → exec (.clear seq tag args) s = .next (s.afterRequest seq (plainReply tag 0x0D 6 s.now)))
      ∧ (9 ≤ args.length → ∃ t, exec (.clear seq tag args) s = .next t
          ∧ t = { s.afterRequest seq (plainReply tag 0x0D 0 s.now) with ports := t.ports, flags := t.flags }
          ∧ (let f := s.flags.discarding s.management
             let b := byteAt args 0
             t.flags.stepTorn = (f.stepTorn && !b.getLsbD 0) ∧ t.flags.stepTimeout = (f.stepTimeout && !b.getLsbD 1)
               ∧ t.flags.freezeLate = (f.freezeLate && !b.getLsbD 2)
               ∧ t.flags.resumeLate = (f.resumeLate && !b.getLsbD 3)
               ∧ t.flags.replyLost = (f.replyLost && !b.getLsbD 4)
               ∧ t.flags.partialDiscarded = (f.partialDiscarded && !b.getLsbD 5)
               ∧ t.flags.clipped = (f.clipped && !b.getLsbD 6))
          ∧ ∀ l : LinkId,
              let f := (s.port l).flags
              let g := (t.port l).flags
              let w := wordAt args (1 + 2 * l.number)
              t.port l = { (s.afterRequest seq (plainReply tag 0x0D 0 s.now)).port l with flags := g }
                ∧ g.checkErr = (f.checkErr && !w.getLsbD 0) ∧ g.seqGap = (f.seqGap && !w.getLsbD 1)
                ∧ g.ownerMismatch = (f.ownerMismatch && !w.getLsbD 2) ∧ g.wrongKind = (f.wrongKind && !w.getLsbD 3)
                ∧ g.slotOverrun = (f.slotOverrun && !w.getLsbD 4) ∧ g.tailOrphan = (f.tailOrphan && !w.getLsbD 5)
                ∧ g.eventDrop = (f.eventDrop && !w.getLsbD 6) ∧ g.startTimeout = (f.startTimeout && !w.getLsbD 7)
                ∧ g.signalLost = (f.signalLost && !w.getLsbD 8))

/-- PROTECT and LOCK with the latch set and no FILL in flight: the limit lock refuses both; else PROTECT replaces the
protected range or refuses it with BAD_VALUE, and LOCK sets the lock; the latch is clear either way (R149, R150). The
range protects the routes below its boundary with side LOW, and those at or above it with side HIGH (R149). -/
def Obligations.ProtectAndLock : Prop :=
  (∀ (m : Management) (i : Nat), m.protects i = true ↔
      (m.side = .low ∧ i < m.boundary) ∨ (m.side = .high ∧ m.boundary ≤ i))
    ∧ ∀ (seq tag : Byte) (args : List Byte) (s : State), s.readyFor seq →
    s.management.armLatch = true → s.management.fill = none →
    let m := { s.management.cleared with armLatch := false }
    let answered (code result : Byte) (m' : Management) : State :=
      { s.afterRequest seq (plainReply tag code result s.now) with management := m' }
    let boundary := (wordAt args 0).toNat
    (args.length < 3 → exec (.protect seq tag args) s = .next (answered 0x0E 6 m))
      ∧ (3 ≤ args.length → s.management.limitLock = true → exec (.protect seq tag args) s = .next (answered 0x0E 4 m))
      ∧ (3 ≤ args.length → s.management.limitLock = false → 384 < boundary ∨ 1 < (byteAt args 2).toNat →
          exec (.protect seq tag args) s = .next (answered 0x0E 6 m))
      ∧ (3 ≤ args.length → s.management.limitLock = false → boundary ≤ 384 → (byteAt args 2).toNat ≤ 1 →
          exec (.protect seq tag args) s = .next (answered 0x0E 0
            { m with boundary := boundary, side := if (byteAt args 2).toNat = 0 then .low else .high }))
      ∧ (s.management.limitLock = true → exec (.lock seq tag args) s = .next (answered 0x0F 4 m))
      ∧ (s.management.limitLock = false →
          exec (.lock seq tag args) s = .next (answered 0x0F 0 { m with limitLock := true }))

/-- RESET is refused with NOT_ARMED when the reset arm was clear at its arrival, with LOCKED under the limit lock, and
is else a part reset without a reply: every block at its reset values, the strapped rate kept, the time bases running
on (R151, R152). That the waiting commands stay is the model's choice, log entry 15, and so are that no progress of a
FILL is held but its next index, log entry 26, and that the port's own `heard` and `fill` are clear, log entry 5. -/
def Obligations.ResetIsAPartReset : Prop :=
  ∀ (seq tag : Byte) (args : List Byte) (s : State), s.readyFor seq →
    (s.management.resetArm = false →
        exec (.reset seq tag args) s = .next (s.afterRequest seq (plainReply tag 0x11 1 s.now)))
      ∧ (s.management.resetArm = true → s.management.limitLock = true →
          exec (.reset seq tag args) s = .next (s.afterRequest seq (plainReply tag 0x11 4 s.now)))
      ∧ (s.management.resetArm = true → s.management.limitLock = false →
          ∃ t, exec (.reset seq tag args) s = .next t ∧ t.AtResetValues (strappedRate s.rate1 s.rate0)
            ∧ t.rate1 = s.rate1 ∧ t.rate0 = s.rate0 ∧ t.now = s.now ∧ t.nextTick = s.nextTick ∧ t.pending = s.pending)

/-- Every request that finds Link D's queue full is lost: no reply, REPLY_LOST, the buffer emptied, the arm latch
cleared by a guarded one, the reset arm set by RESET_ARM and cleared by every other (R138, R151). That a lost ARM
empties the buffer too and that a lost RESET_ARM sets the reset arm is the model's reading, log entry 10. -/
def Obligations.RequestsAtAFullQueueAreLost : Prop :=
  ∀ (c : Instr) (seq : Byte) (s : State), requestSeq c = some seq → s.inSequence .d seq →
    16 ≤ (s.port .d).queue.length →
    let guarded := match c with
      | .put _ _ _ | .fill _ _ _ | .protect _ _ _ | .lock _ _ _ => true
      | _ => false
    let arms := match c with
      | .resetArm _ _ _ => true
      | _ => false
    exec c s = .next
      { s with
        ports := { s.ports with d := s.ports.d.took seq }
        flags := { s.flags.discarding s.management with replyLost := true }
        management := { s.management with
          armLatch := s.management.armLatch && !guarded, partialRecord := [], resetArm := arms } }

/-- PUT, FILL, PROTECT and LOCK are refused with NOT_ARMED when the latch is clear, and with BUSY, clearing the latch,
while a FILL is in flight; a PUT's reply carries the cursor report (R137, R139, R140, R147). -/
def Obligations.GuardedRequestsNeedTheLatch : Prop :=
  ∀ (c : Instr) (seq tag code : Byte) (args : List Byte) (s : State), s.readyFor seq →
    (c = .put seq tag args ∧ code = 0x05) ∨ (c = .fill seq tag args ∧ code = 0x07)
      ∨ (c = .protect seq tag args ∧ code = 0x0E) ∨ (c = .lock seq tag args ∧ code = 0x0F) →
    let answered (result : Byte) (m : Management) : State :=
      { s.afterRequest seq
          { tag := tag, code := code, result := result, count := 0, data := if code = 0x05 then m.report else []
            eligible := s.now } with management := m }
    (s.management.armLatch = false → exec c s = .next (answered 1 s.management.cleared))
      ∧ (s.management.armLatch = true → s.management.fill ≠ none → s.management.partialRecord = [] →
          exec c s = .next (answered 2 { s.management.cleared with armLatch := false }))

/-! ### Records written -/

/-- A CUE record with an owner code from 5 to 7 (R135) or a value out of range is refused; one that keeps class and
owner changes the configuration alone; one that changes either empties the entry; and one that changes the class
starts the routes of that source again (R17 to R19, R47, R70). A LINK record is refused by the checks of R120 in their
order, the fit of every slot at a new rate among them (R100, R101), or written whole; that check 3 lets a new byte
order of a Link D that is DOWN through is the model's choice, log entry 25. A GLOBAL record with a window out of range
is refused, or written whole (R37, R108, R136). -/
def Obligations.CueLinkAndGlobalRecordsAreCheckedAndWritten : Prop :=
  (∀ (i : CueId) (bs : List Byte) (s : State),
    (CueConfig.ofBytes bs = none ↔ 5 ≤ ((byteAt bs 0).extractLsb' 0 3).toNat)
      ∧ (CueConfig.ofBytes bs = none → s.writeRecord .cue i.val bs = .error .badValue)
      ∧ ∀ c, CueConfig.ofBytes bs = some c →
          let e := s.cue i
          let lawful := 1 ≤ c.freshLimit.toNat ∧ c.freshLimit.toNat ≤ 5000 ∧ c.holdLimit.toNat ≤ 60000
            ∧ 1 ≤ c.fadeStep.toNat ∧ c.fadeStep.toNat ≤ 32767
          let emptied : CueEntry :=
            { e with config := c, value := c.neutral, previous := c.neutral, pending := none, stepTag := 0, age := 0
                     state := .empty }
          (¬ lawful → s.writeRecord .cue i.val bs = .error .badValue)
            ∧ (lawful → c.cls = e.config.cls → c.owner = e.config.owner →
                s.writeRecord .cue i.val bs = .ok (s.setCue i { e with config := c }))
            ∧ (lawful → c.cls = e.config.cls → c.owner ≠ e.config.owner →
                s.writeRecord .cue i.val bs = .ok (s.setCue i emptied))
            ∧ (lawful → c.cls ≠ e.config.cls → ∃ t, s.writeRecord .cue i.val bs = .ok t
                ∧ t = { s.setCue i emptied with routes := t.routes, freeze := t.freeze }
                ∧ (∀ id, cueOfByte (s.route id).record.sourceA = i → (s.route id).record.kind = .field →
                    t.route id = (s.route id).restarted)
                ∧ (∀ id, cueOfByte (s.route id).record.sourceA = i → (s.route id).record.kind = .event →
                    t.route id = { s.route id with armed := true })
                ∧ (∀ id, cueOfByte (s.route id).record.sourceA ≠ i ∨ (s.route id).record.kind = .off →
                    t.route id = s.route id)
                ∧ t.freeze = ({ t with freeze := s.freeze }).reevaluate.freeze))
    ∧ (∀ (l : LinkId) (bs : List Byte) (s : State),
      let p := s.port l
      let coded := (byteAt bs 0).toNat ≤ 2 ∧ (byteAt bs 1).toNat ≤ 1 ∧ (byteAt bs 2).toNat ≤ 1
        ∧ (byteAt bs 3).toNat ≤ 1 ∧ 1 ≤ (byteAt bs 4).toNat ∧ (byteAt bs 4).toNat ≤ 3 ∧ (byteAt bs 5).toNat ≤ 15
      (¬ coded → s.writeRecord .link l.number bs = .error .badValue)
        ∧ ∀ rate order trigger, coded →
            (byteAt bs 0).toNat = (match rate with | .mbit12 => 0 | .mbit25 => 1 | .mbit50 => 2) →
            (byteAt bs 1).toNat = (match order with | .big => 0 | .little => 1) →
            (byteAt bs 2).toNat = (match trigger with | .internal => 0 | .external => 1) →
            let r : LinkSettings :=
              { rate := rate, order := order, trigger := trigger, haltOnCheck := decide ((byteAt bs 3).toNat = 1)
                evMax := (byteAt bs 4).toNat, almostFull := (byteAt bs 5).toNat }
            let allowed := l = .d →
              trigger = .internal ∧ r.haltOnCheck = false ∧ rate = strappedRate s.rate1 s.rate0
            let held := (rate ≠ p.settings.rate ∨ order ≠ p.settings.order ∨ trigger ≠ p.settings.trigger)
              ∧ (p.state = .starting ∨ p.state = .running)
            let fits := rate ≠ p.settings.rate →
              ∀ k : Fin 6, p.plan[k.val].length ≠ 0 → SlotFits l rate p.plan[k.val] (p.template p.plan[k.val].template)
            (¬ allowed → s.writeRecord .link l.number bs = .error .badValue)
              ∧ (allowed → held → s.writeRecord .link l.number bs = .error .linkState)
              ∧ (allowed → ¬ held → ¬ fits → s.writeRecord .link l.number bs = .error .slotTooShort)
              ∧ (allowed → ¬ held → fits →
                  s.writeRecord .link l.number bs = .ok (s.setPort l { p with settings := r })))
    ∧ ∀ (bs : List Byte) (s : State),
      let lawful := 1 ≤ (wordAt bs 0).toNat ∧ (wordAt bs 0).toNat ≤ 255 ∧ 1 ≤ (wordAt bs 2).toNat
        ∧ (wordAt bs 2).toNat ≤ 60000 ∧ 1 ≤ (wordAt bs 4).toNat ∧ (wordAt bs 4).toNat ≤ 60000
      (¬ lawful → s.writeRecord .global 0 bs = .error .badValue)
        ∧ (lawful → s.writeRecord .global 0 bs = .ok { s with
            globals := { batchWindow := wordAt bs 0, freezeWindow := wordAt bs 2, resumeWindow := wordAt bs 4 } })

/-- A ROUTE record is refused by the checks of R42 in their order, kind code 3 among them, or written whole: the held
value kept within the new range by a rewrite in the same place, else at N; the peak register and the converged mark
cleared, the route armed, and the ramp re-evaluated (R42 to R45, R110, R111); that a kept pattern of a SWITCH route is
moved into lo to hi as a signed number is the model's reading, log entry 11. TEMPLATE and PLAN records are refused by
the checks of R84 and R87 in their order, the fit of the slots among them (R100, R101; a payload holds 2 bytes for
each wide field and 1 for another, R83), or written whole with a re-evaluation (R85, R88). A plan that lets a stopped
walk go on restarts it: the link RUNNING under the INTERNAL trigger with its timer stopped (R88), all links in turn
after the records of a request (log entry 9). -/
def Obligations.RouteTemplateAndPlanRecordsAreCheckedAndWritten : Prop :=
  (∀ (id : RouteId) (bs : List Byte) (s : State),
    (RouteRecord.ofBytes bs = none ↔ ((byteAt bs 0).extractLsb' 6 2).toNat = 3)
      ∧ (s.management.protects id.val = true → s.writeRecord .route id.val bs = .error .isProtected)
      ∧ (s.management.protects id.val = false → RouteRecord.ofBytes bs = none →
          s.writeRecord .route id.val bs = .error .badValue)
      ∧ ∀ r, s.management.protects id.val = false → RouteRecord.ofBytes bs = some r →
          let x := s.route id
          let consistent := r.Consistent (s.sourceClass r)
          let n := ((s.port r.link).template r.template).fields
          let taken := ∃ k, k ≠ id ∧ (s.route k).record.kind = .field ∧ (s.route k).record.link = r.link
            ∧ (s.route k).record.template = r.template ∧ (s.route k).record.position = r.position
          let same := x.record.kind = .field ∧ r.kind = .field ∧ x.record.link = r.link
            ∧ x.record.template = r.template ∧ x.record.position = r.position
          (r.kind ≠ .off → ¬ consistent → s.writeRecord .route id.val bs = .error .badValue)
            ∧ (r.kind = .event → consistent → 32767 < r.hysteresis.toNat →
                s.writeRecord .route id.val bs = .error .badValue)
            ∧ (r.kind = .field → consistent → n ≤ r.position.toNat →
                s.writeRecord .route id.val bs = .error .badIndex)
            ∧ (r.kind = .field → consistent → r.position.toNat < n → taken →
                s.writeRecord .route id.val bs = .error .positionTaken)
            ∧ (r.kind = .off ∨ (r.kind = .event ∧ consistent ∧ r.hysteresis.toNat ≤ 32767)
                  ∨ (r.kind = .field ∧ consistent ∧ r.position.toNat < n ∧ ¬ taken) →
                ∃ t, s.writeRecord .route id.val bs = .ok t
                  ∧ t = { s with routes := t.routes, freeze := t.freeze }
                  ∧ (∀ k, k ≠ id → t.route k = s.route k)
                  ∧ (t.route id).record = r ∧ (t.route id).peak = none ∧ (t.route id).armed = true
                  ∧ (t.route id).converged = false
                  ∧ ((t.route id).settled = true ↔ r.kind = .field ∧ (t.route id).held = r.neutral)
                  ∧ (¬ same → (t.route id).held = r.neutral)
                  ∧ (same → x.held.toInt < r.lo.toInt → (t.route id).held = r.lo)
                  ∧ (same → r.lo.toInt ≤ x.held.toInt → r.hi.toInt < x.held.toInt → (t.route id).held = r.hi)
                  ∧ (same → r.lo.toInt ≤ x.held.toInt → x.held.toInt ≤ r.hi.toInt → (t.route id).held = x.held)
                  ∧ t.freeze = ({ t with freeze := s.freeze }).reevaluate.freeze))
    ∧ (∀ t : Template,
      let width (i : Nat) : Nat := if t.isWide i then 2 else 1
      t.payloadBytes = ((List.range t.fieldCount.toNat).map width).sum
        ∧ ∀ k, t.split = some k → k.toNat ≤ t.fieldCount.toNat →
            t.headBytes = ((List.range k.toNat).map width).sum ∧ t.headBytes + t.tailBytes = t.payloadBytes)
    ∧ (∀ (l : LinkId) (t : BitVec 2) (bs : List Byte) (s : State),
      let p := s.port l
      let rec_ := Template.ofBytes bs
      let index := l.number * 4 + t.toNat
      let lawful := rec_.fields ≤ 24 ∧ ∀ split, rec_.split = some split → 1 ≤ split.toNat ∧ split.toNat < rec_.fields
      let unsplit := rec_.split = none ∧ ∃ k : Fin 6, p.plan[k.val].length ≠ 0 ∧ p.plan[k.val].template = t
        ∧ p.plan[k.val].rule ∈ [SlotRule.head, .tail, .tailOrEvent]
      let holdsAll := ∀ id, s.InTemplate l t id → (s.route id).record.position.toNat < rec_.fields
      let fits := ∀ k : Fin 6, p.plan[k.val].length ≠ 0 → p.plan[k.val].template = t →
        p.plan[k.val].rule ∈ [SlotRule.cyclic, .eventOrCyclic, .head, .tail, .tailOrEvent] →
        SlotFits l p.settings.rate p.plan[k.val] rec_
      (¬ lawful ∨ unsplit → s.writeRecord .template index bs = .error .badValue)
        ∧ (lawful → ¬ unsplit → ¬ holdsAll → s.writeRecord .template index bs = .error .positionTaken)
        ∧ (lawful → ¬ unsplit → holdsAll → ¬ fits → s.writeRecord .template index bs = .error .slotTooShort)
        ∧ (lawful → ¬ unsplit → holdsAll → fits →
            s.writeRecord .template index bs =
              .ok (s.setPort l { p with templates := p.templates.set t.toNat rec_ t.isLt }).reevaluate))
    ∧ (∀ (l : LinkId) (bs : List Byte) (s : State),
      let p := s.port l
      let length (k : Fin 6) := wordAt bs (4 * k.val + 2)
      let ruled := ∀ k : Fin 6, (byteAt bs (4 * k.val)).toNat ≤ 6 ∧ (length k = 0 ∨ 20 ≤ (length k).toNat)
      let numbered := ∀ k : Fin 6, (byteAt bs (4 * k.val + 1)).toNat ≤ 3
      (¬ ruled → s.writeRecord .plan l.number bs = .error .badValue)
        ∧ (ruled → ¬ numbered → s.writeRecord .plan l.number bs = .error .badIndex)
        ∧ ∀ plan : Plan, ruled →
            (∀ k : Fin 6, (byteAt bs (4 * k.val)).toNat =
                  (match plan[k.val].rule with
                   | .cyclic => 0 | .eventOrCyclic => 1 | .eventOrIdle => 2 | .head => 3 | .tail => 4
                   | .tailOrEvent => 5 | .idle => 6)
                ∧ (byteAt bs (4 * k.val + 1)).toNat = plan[k.val].template.toNat ∧ length k = plan[k.val].length) →
            let split := ∀ k : Fin 6, plan[k.val].length ≠ 0 →
              plan[k.val].rule ∈ [SlotRule.head, .tail, .tailOrEvent] → (p.template plan[k.val].template).split ≠ none
            let fits := ∀ k : Fin 6, plan[k.val].length ≠ 0 →
              SlotFits l p.settings.rate plan[k.val] (p.template plan[k.val].template)
            (¬ split → s.writeRecord .plan l.number bs = .error .badValue)
              ∧ (split → ¬ fits → s.writeRecord .plan l.number bs = .error .slotTooShort)
              ∧ (split → fits →
                  s.writeRecord .plan l.number bs = .ok (s.setPort l { p with plan := plan }).reevaluate))
    ∧ ∀ (l : LinkId) (s : State),
      let p := s.port l
      let stopped := p.state = .running ∧ p.settings.trigger = .internal ∧ p.slotTimer = none
      (∀ k, stopped → FollowsInWalk p k → s.restartWalk l = s.openSlot l k)
        ∧ (¬ stopped ∨ (∀ k : Fin 6, p.plan[k.val].length = 0) → s.restartWalk l = s)
        ∧ s.restartWalks = (((s.restartWalk .d).restartWalk .v).restartWalk .a).restartWalk .c

/-! ### Frames and records as bytes -/

/-- A frame whose payload its kind allows (at most 48, 48, 48, 8, 52, 60 and 62 bytes for the kinds 01h to 07h, 62 for
any other, and a multiple of three for an UPDATE) passes its check and is read back field for field. A string that
passes is the bytes of such a frame; one fails with a length that it does not make up or that exceeds its kind's
maximum, with an UPDATE payload that is not a multiple of three, and with a wrong check byte (R128, R133). The header
bytes 0 to 6 are kind, control, sequence, step tag, summary byte and payload length, then come the payload and the
check byte (R132). The CRC-8 divides by x^8 + x^2 + x + 1 from 0, most significant bit first; over a string and its
check byte it is 0; the first frame of Link D has check byte DFh (R128). That a string which does not make up its own
length fails is the model's choice, log entry 7. -/
def Obligations.FramesSurviveTheirBytes : Prop :=
  let most (kind : Byte) : Nat := match kind.toNat with
    | 1 | 2 | 3 => 48
    | 4 => 8
    | 5 => 52
    | 6 => 60
    | _ => 62
  (∀ f : Frame, f.payload.length ≤ most f.kind → (f.kind = 0x06 → f.payload.length % 3 = 0) →
      Frame.ofBytes f.toBytes = some f)
    ∧ (∀ (bs : List Byte) (f : Frame), Frame.ofBytes bs = some f →
        f.toBytes = bs ∧ f.payload.length ≤ most f.kind ∧ (f.kind = 0x06 → f.payload.length % 3 = 0))
    ∧ (∀ bs : List Byte,
        bs.length ≠ 8 + (byteAt bs 6).toNat ∨ most (byteAt bs 0) < (byteAt bs 6).toNat
          ∨ (byteAt bs 0 = 0x06 ∧ (byteAt bs 6).toNat % 3 ≠ 0) →
        Frame.ofBytes bs = none)
    ∧ (∀ (bs : List Byte) (check : Byte), check ≠ crc8 bs → Frame.ofBytes (bs ++ [check]) = none)
    ∧ (∀ f : Frame,
        let bs := f.toBytes
        bs.length = 8 + f.payload.length
          ∧ byteAt bs 0 = f.kind ∧ byteAt bs 1 = f.control ∧ byteAt bs 2 = f.seq
          ∧ 256 * (byteAt bs 3).toNat + (byteAt bs 4).toNat = f.stepTag.toNat ∧ byteAt bs 5 = f.summary
          ∧ (f.payload.length < 256 → (byteAt bs 6).toNat = f.payload.length)
          ∧ (∀ i, i < f.payload.length → byteAt bs (7 + i) = byteAt f.payload i)
          ∧ byteAt bs (7 + f.payload.length) = crc8 (bs.take (7 + f.payload.length)))
    ∧ (∀ bs : List Byte, crc8 (bs ++ [crc8 bs]) = 0)
    ∧ (∀ (bs : List Byte) (b : Byte),
        let shift (crc : Byte) : Byte := if crc.getLsbD 7 then (crc <<< 1) ^^^ 0x07 else crc <<< 1
        crc8 [] = 0 ∧ crc8 (bs ++ [b]) = (List.range 8).foldl (fun crc _ => shift crc) (crc8 bs ^^^ b))
    ∧ Frame.toBytes { kind := 0x01, control := 0, seq := 0, stepTag := 0, summary := 0, payload := [] } =
        [0x01, 0, 0, 0, 0, 0, 0, 0xDF]

/-- Each management record in range is read back from its own bytes (R135, R136). A CUE record lays out its
configuration in nine bytes and then the status part: state, presence of a pending value and of an override, effective
value, step tag (R20, R135). The ROUTE record lays its fields out in thirty bytes (R135), the TEMPLATE record in
seven, with one width bit a position (R136); that unnamed bits are read past and are 0 in a record read is the model's
reading, log entry 21. Any string of a record's length that is read holds those same fields at those places. -/
def Obligations.RecordsSurviveTheirBytes : Prop :=
  (∀ e : CueEntry, e.toBytes.length = 14 ∧ CueConfig.ofBytes e.toBytes = some e.config)
    ∧ (∀ e : CueEntry,
        let bs := e.toBytes
        (byteAt bs 0).getLsbD 7 = decide (e.config.cls = .switch) ∧ (byteAt bs 0).extractLsb' 3 4 = 0
          ∧ ((byteAt bs 0).extractLsb' 0 3).toNat = (match e.config.owner with | some l => l.number | none => 4)
          ∧ wordAt bs 1 = e.config.neutral ∧ wordAt bs 3 = e.config.freshLimit
          ∧ wordAt bs 5 = e.config.holdLimit ∧ wordAt bs 7 = e.config.fadeStep
          ∧ ((byteAt bs 9).extractLsb' 0 3).toNat =
              (match e.state with | .empty => 0 | .live => 1 | .held => 2 | .fading => 3 | .rested => 4)
          ∧ (byteAt bs 9).getLsbD 3 = e.pending.isSome ∧ (byteAt bs 9).getLsbD 4 = e.override.isSome
          ∧ (byteAt bs 9).extractLsb' 5 3 = 0
          ∧ wordAt bs 10 =
              (match e.override with | some v => v | none => if e.state = .empty then e.config.neutral else e.value)
          ∧ wordAt bs 12 = e.stepTag)
    ∧ (∀ (bs : List Byte) (c : CueConfig), CueConfig.ofBytes bs = some c → 9 ≤ bs.length →
        c.toBytes = ((byteAt bs 0) &&& 0x87) :: (bs.take 9).drop 1)
    ∧ (∀ r : RouteRecord, r.toBytes.length = 30 ∧ RouteRecord.ofBytes r.toBytes = some r)
    ∧ (∀ (bs : List Byte) (r : RouteRecord), RouteRecord.ofBytes bs = some r → bs.length = 30 → r.toBytes = bs)
    ∧ (∀ bs : List Byte,
        let t := Template.ofBytes bs
        t.receiverAddress = (byteAt bs 0).getLsbD 0 ∧ t.fieldCount = byteAt bs 1
          ∧ t.split = (if byteAt bs 2 = 0 then none else some (byteAt bs 2))
          ∧ t.tailAddress = (byteAt bs 3).getLsbD 0
          ∧ ∀ i, i < 24 → t.isWide i = (byteAt bs (4 + i / 8)).getLsbD (7 - i % 8))
    ∧ (∀ r : RouteRecord,
        let bs := r.toBytes
        let b0 := byteAt bs 0
        let b1 := byteAt bs 1
        (b0.extractLsb' 6 2).toNat = (match r.kind with | .off => 0 | .field => 1 | .event => 2)
          ∧ (b0.extractLsb' 4 2).toNat = (match r.combine with | .pass => 0 | .sum => 1 | .diff => 2 | .peak => 3)
          ∧ b0.getLsbD 3 = r.substitutePresent ∧ b0.getLsbD 2 = decide (r.direction = .falling)
          ∧ b0.getLsbD 1 = r.receiverAddress ∧ b0.getLsbD 0 = r.sourceBPresent
          ∧ (b1.extractLsb' 6 2).toNat = r.link.number ∧ b1.extractLsb' 4 2 = r.template
          ∧ b1.extractLsb' 0 4 = r.shift
          ∧ byteAt bs 2 = r.position ∧ byteAt bs 3 = r.sourceA ∧ byteAt bs 4 = r.sourceB ∧ byteAt bs 5 = r.eventClass
          ∧ wordAt bs 6 = r.substitute ∧ wordAt bs 8 = r.gain ∧ wordAt bs 10 = r.deadband ∧ wordAt bs 12 = r.bias
          ∧ wordAt bs 14 = r.lo ∧ wordAt bs 16 = r.hi ∧ wordAt bs 18 = r.slew ∧ wordAt bs 20 = r.freezeSlew
          ∧ wordAt bs 22 = r.neutral ∧ wordAt bs 24 = r.careMask ∧ wordAt bs 26 = r.threshold
          ∧ wordAt bs 28 = r.hysteresis)
    ∧ (∀ t : Template,
        let bs := t.toBytes
        byteAt bs 0 = (if t.receiverAddress then 1 else 0) ∧ byteAt bs 1 = t.fieldCount
          ∧ byteAt bs 2 = (match t.split with | some k => k | none => 0)
          ∧ byteAt bs 3 = (if t.tailAddress then 1 else 0)
          ∧ ∀ i, i < 24 → (byteAt bs (4 + i / 8)).getLsbD (7 - i % 8) = t.isWide i)
    ∧ (∀ t : Template, t.split ≠ some 0 → t.toBytes.length = 7 ∧ Template.ofBytes t.toBytes = t)
    ∧ (∀ p : Plan, (∀ k : Fin 6, p[k.val].length = 0 ∨ 20 ≤ p[k.val].length.toNat) →
        (planBytes p).length = 24 ∧ planOfBytes (planBytes p) = .ok p)
    ∧ (∀ r : LinkSettings, 1 ≤ r.evMax → r.evMax ≤ 3 → r.almostFull ≤ 15 →
        r.toBytes.length = 6 ∧ LinkSettings.ofBytes r.toBytes = some r)
    ∧ (∀ g : GlobalSettings, g.toBytes.length = 6 ∧ GlobalSettings.ofBytes g.toBytes = g)

/-- A request row is the arrival of its own REQUEST frame: executing the row and receiving the frame of its payload on
Link D, under any control, step tag and summary bytes, leave the same state (R130, R133, R137; log entry 6). -/
def Obligations.RequestRowsAreTheirFrames : Prop :=
  ∀ (c : Instr) (seq control summary : Byte) (stepTag : Word) (payload : List Byte) (s : State),
    requestSeq c = some seq → requestPayload c = some payload → c.wellFormed = true →
    exec c s = exec (.frameReceived .d (Frame.toBytes
      { kind := 0x07, control := control, seq := seq, stepTag := stepTag, summary := summary, payload := payload })) s

/-! ### Laws that every step keeps -/

/-- No step makes a queue longer than 16, puts two CUE_EVENT records of one route in it, or a REPLY in a board queue
(R72); and every step keeps a link that is out of RUNNING with its queue empty, its scheduler stopped and its line
free (R77, R102, R123). -/
def Obligations.QueuesAndStoppedLinksStayLawful : Prop :=
  ∀ s t : State, s.QueuesLawful → s.StoppedLinksQuiet → step s = .next t → t.QueuesLawful ∧ t.StoppedLinksQuiet

/-- Every step keeps each field position of a template to one FIELD route below its field count (R44, R60, R84), the
link settings in range and Link D's fixed (R93, R120), the cursor inside its table and the partial-record buffer short
of a record (R141, R142, R149). -/
def Obligations.TablesAndManagementStayLawful : Prop :=
  ∀ s t : State, s.FieldPositionsLawful → s.SettingsLawful → s.ManagementLawful → step s = .next t →
    t.FieldPositionsLawful ∧ t.SettingsLawful ∧ t.ManagementLawful

/-- Every step keeps the queues free of cue events in FREEZING and FROZEN, and the window timer running in FREEZING
and RESUMING alone (R78, R105, R108, R114). -/
def Obligations.FreezeStaysLawful : Prop :=
  ∀ s t : State, s.FrozenQueuesClean → s.WindowTimerLawful → step s = .next t →
    t.FrozenQueuesClean ∧ t.WindowTimerLawful

/-- Every step keeps the held values of FIELD routes of ANALOG sources in their range, and the settled marks exact
(R52, R53, R110). -/
def Obligations.RouteStatesStayLawful : Prop :=
  ∀ s t : State, s.AnalogRoutesBounded → s.SettledMarksRight → step s = .next t →
    t.AnalogRoutesBounded ∧ t.SettledMarksRight

/-- Every step keeps pending values in cues of Link D under an open batch alone, the batch timer exact, and every cue
entry lawful (R2, R6, R7, R9, R17, R35). -/
def Obligations.CuesAndBatchStayLawful : Prop :=
  ∀ s t : State, s.BatchLawful → s.CueTableLawful → step s = .next t → t.BatchLawful ∧ t.CueTableLawful

/-- Every frame that a step puts on a line passes the check a receiver makes of it (R128, R132, R133). -/
def Obligations.FramesStayLawful : Prop :=
  ∀ s t : State, s.FramesLawful → step s = .next t → t.FramesLawful

/-- While the limit lock is set, no step but a power-on reset changes a protected route record or the protected range
or clears the lock (R150). -/
def Obligations.TheLimitLockHolds : Prop :=
  ∀ s t : State, s.management.limitLock = true → step s = .next t →
    (∀ rate1 rate0 rest, s.pending ≠ .powerOnReset rate1 rate0 :: rest) →
    t.management.limitLock = true ∧ t.management.boundary = s.management.boundary
      ∧ t.management.side = s.management.side
      ∧ ∀ id : RouteId, s.management.protects id.val = true → (t.route id).record = (s.route id).record
end

