-- ==== Sys2Proof/Laws/State.lean ====
section
/-! SUPPORT. What each named update of the state leaves as it stands: one lemma per field and update, each true by
definition. -/

namespace Sys2Proof.Machine

variable (s : State)

/-! ### setPort -/

@[simp] theorem State.setPort_now (l : LinkId) (p : Port) : (s.setPort l p).now = s.now := rfl
@[simp] theorem State.setPort_nextTick (l : LinkId) (p : Port) : (s.setPort l p).nextTick = s.nextTick := rfl
@[simp] theorem State.setPort_rate1 (l : LinkId) (p : Port) : (s.setPort l p).rate1 = s.rate1 := rfl
@[simp] theorem State.setPort_rate0 (l : LinkId) (p : Port) : (s.setPort l p).rate0 = s.rate0 := rfl
@[simp] theorem State.setPort_cues (l : LinkId) (p : Port) : (s.setPort l p).cues = s.cues := rfl
@[simp] theorem State.setPort_batch (l : LinkId) (p : Port) : (s.setPort l p).batch = s.batch := rfl
@[simp] theorem State.setPort_routes (l : LinkId) (p : Port) : (s.setPort l p).routes = s.routes := rfl
@[simp] theorem State.setPort_freeze (l : LinkId) (p : Port) : (s.setPort l p).freeze = s.freeze := rfl
@[simp] theorem State.setPort_globals (l : LinkId) (p : Port) : (s.setPort l p).globals = s.globals := rfl
@[simp] theorem State.setPort_management (l : LinkId) (p : Port) : (s.setPort l p).management = s.management := rfl
@[simp] theorem State.setPort_flags (l : LinkId) (p : Port) : (s.setPort l p).flags = s.flags := rfl
@[simp] theorem State.setPort_lastClipped (l : LinkId) (p : Port) : (s.setPort l p).lastClipped = s.lastClipped := rfl
@[simp] theorem State.setPort_pending (l : LinkId) (p : Port) : (s.setPort l p).pending = s.pending := rfl
@[simp] theorem State.setPort_cue (l : LinkId) (p : Port) (k : CueId) : (s.setPort l p).cue k = s.cue k := rfl
@[simp] theorem State.setPort_route (l : LinkId) (p : Port) (k : RouteId) : (s.setPort l p).route k = s.route k := rfl

/-! ### modPort -/

@[simp] theorem State.modPort_now (l : LinkId) (f : Port → Port) : (s.modPort l f).now = s.now := rfl
@[simp] theorem State.modPort_nextTick (l : LinkId) (f : Port → Port) : (s.modPort l f).nextTick = s.nextTick := rfl
@[simp] theorem State.modPort_rate1 (l : LinkId) (f : Port → Port) : (s.modPort l f).rate1 = s.rate1 := rfl
@[simp] theorem State.modPort_rate0 (l : LinkId) (f : Port → Port) : (s.modPort l f).rate0 = s.rate0 := rfl
@[simp] theorem State.modPort_cues (l : LinkId) (f : Port → Port) : (s.modPort l f).cues = s.cues := rfl
@[simp] theorem State.modPort_batch (l : LinkId) (f : Port → Port) : (s.modPort l f).batch = s.batch := rfl
@[simp] theorem State.modPort_routes (l : LinkId) (f : Port → Port) : (s.modPort l f).routes = s.routes := rfl
@[simp] theorem State.modPort_freeze (l : LinkId) (f : Port → Port) : (s.modPort l f).freeze = s.freeze := rfl
@[simp] theorem State.modPort_globals (l : LinkId) (f : Port → Port) : (s.modPort l f).globals = s.globals := rfl
@[simp] theorem State.modPort_management (l : LinkId) (f : Port → Port) : (s.modPort l f).management = s.management := rfl
@[simp] theorem State.modPort_flags (l : LinkId) (f : Port → Port) : (s.modPort l f).flags = s.flags := rfl
@[simp] theorem State.modPort_lastClipped (l : LinkId) (f : Port → Port) : (s.modPort l f).lastClipped = s.lastClipped := rfl
@[simp] theorem State.modPort_pending (l : LinkId) (f : Port → Port) : (s.modPort l f).pending = s.pending := rfl
@[simp] theorem State.modPort_cue (l : LinkId) (f : Port → Port) (k : CueId) : (s.modPort l f).cue k = s.cue k := rfl
@[simp] theorem State.modPort_route (l : LinkId) (f : Port → Port) (k : RouteId) : (s.modPort l f).route k = s.route k := rfl

/-! ### modLinkFlags -/

@[simp] theorem State.modLinkFlags_now (l : LinkId) (f : LinkFlags → LinkFlags) : (s.modLinkFlags l f).now = s.now := rfl
@[simp] theorem State.modLinkFlags_nextTick (l : LinkId) (f : LinkFlags → LinkFlags) : (s.modLinkFlags l f).nextTick = s.nextTick := rfl
@[simp] theorem State.modLinkFlags_rate1 (l : LinkId) (f : LinkFlags → LinkFlags) : (s.modLinkFlags l f).rate1 = s.rate1 := rfl
@[simp] theorem State.modLinkFlags_rate0 (l : LinkId) (f : LinkFlags → LinkFlags) : (s.modLinkFlags l f).rate0 = s.rate0 := rfl
@[simp] theorem State.modLinkFlags_cues (l : LinkId) (f : LinkFlags → LinkFlags) : (s.modLinkFlags l f).cues = s.cues := rfl
@[simp] theorem State.modLinkFlags_batch (l : LinkId) (f : LinkFlags → LinkFlags) : (s.modLinkFlags l f).batch = s.batch := rfl
@[simp] theorem State.modLinkFlags_routes (l : LinkId) (f : LinkFlags → LinkFlags) : (s.modLinkFlags l f).routes = s.routes := rfl
@[simp] theorem State.modLinkFlags_freeze (l : LinkId) (f : LinkFlags → LinkFlags) : (s.modLinkFlags l f).freeze = s.freeze := rfl
@[simp] theorem State.modLinkFlags_globals (l : LinkId) (f : LinkFlags → LinkFlags) : (s.modLinkFlags l f).globals = s.globals := rfl
@[simp] theorem State.modLinkFlags_management (l : LinkId) (f : LinkFlags → LinkFlags) : (s.modLinkFlags l f).management = s.management := rfl
@[simp] theorem State.modLinkFlags_flags (l : LinkId) (f : LinkFlags → LinkFlags) : (s.modLinkFlags l f).flags = s.flags := rfl
@[simp] theorem State.modLinkFlags_lastClipped (l : LinkId) (f : LinkFlags → LinkFlags) : (s.modLinkFlags l f).lastClipped = s.lastClipped := rfl
@[simp] theorem State.modLinkFlags_pending (l : LinkId) (f : LinkFlags → LinkFlags) : (s.modLinkFlags l f).pending = s.pending := rfl
@[simp] theorem State.modLinkFlags_cue (l : LinkId) (f : LinkFlags → LinkFlags) (k : CueId) : (s.modLinkFlags l f).cue k = s.cue k := rfl
@[simp] theorem State.modLinkFlags_route (l : LinkId) (f : LinkFlags → LinkFlags) (k : RouteId) : (s.modLinkFlags l f).route k = s.route k := rfl

/-! ### setCue -/

@[simp] theorem State.setCue_now (c : CueId) (e : CueEntry) : (s.setCue c e).now = s.now := rfl
@[simp] theorem State.setCue_nextTick (c : CueId) (e : CueEntry) : (s.setCue c e).nextTick = s.nextTick := rfl
@[simp] theorem State.setCue_rate1 (c : CueId) (e : CueEntry) : (s.setCue c e).rate1 = s.rate1 := rfl
@[simp] theorem State.setCue_rate0 (c : CueId) (e : CueEntry) : (s.setCue c e).rate0 = s.rate0 := rfl
@[simp] theorem State.setCue_batch (c : CueId) (e : CueEntry) : (s.setCue c e).batch = s.batch := rfl
@[simp] theorem State.setCue_routes (c : CueId) (e : CueEntry) : (s.setCue c e).routes = s.routes := rfl
@[simp] theorem State.setCue_ports (c : CueId) (e : CueEntry) : (s.setCue c e).ports = s.ports := rfl
@[simp] theorem State.setCue_freeze (c : CueId) (e : CueEntry) : (s.setCue c e).freeze = s.freeze := rfl
@[simp] theorem State.setCue_globals (c : CueId) (e : CueEntry) : (s.setCue c e).globals = s.globals := rfl
@[simp] theorem State.setCue_management (c : CueId) (e : CueEntry) : (s.setCue c e).management = s.management := rfl
@[simp] theorem State.setCue_flags (c : CueId) (e : CueEntry) : (s.setCue c e).flags = s.flags := rfl
@[simp] theorem State.setCue_lastClipped (c : CueId) (e : CueEntry) : (s.setCue c e).lastClipped = s.lastClipped := rfl
@[simp] theorem State.setCue_pending (c : CueId) (e : CueEntry) : (s.setCue c e).pending = s.pending := rfl
@[simp] theorem State.setCue_port (c : CueId) (e : CueEntry) (k : LinkId) : (s.setCue c e).port k = s.port k := rfl
@[simp] theorem State.setCue_route (c : CueId) (e : CueEntry) (k : RouteId) : (s.setCue c e).route k = s.route k := rfl

/-! ### modCue -/

@[simp] theorem State.modCue_now (c : CueId) (f : CueEntry → CueEntry) : (s.modCue c f).now = s.now := rfl
@[simp] theorem State.modCue_nextTick (c : CueId) (f : CueEntry → CueEntry) : (s.modCue c f).nextTick = s.nextTick := rfl
@[simp] theorem State.modCue_rate1 (c : CueId) (f : CueEntry → CueEntry) : (s.modCue c f).rate1 = s.rate1 := rfl
@[simp] theorem State.modCue_rate0 (c : CueId) (f : CueEntry → CueEntry) : (s.modCue c f).rate0 = s.rate0 := rfl
@[simp] theorem State.modCue_batch (c : CueId) (f : CueEntry → CueEntry) : (s.modCue c f).batch = s.batch := rfl
@[simp] theorem State.modCue_routes (c : CueId) (f : CueEntry → CueEntry) : (s.modCue c f).routes = s.routes := rfl
@[simp] theorem State.modCue_ports (c : CueId) (f : CueEntry → CueEntry) : (s.modCue c f).ports = s.ports := rfl
@[simp] theorem State.modCue_freeze (c : CueId) (f : CueEntry → CueEntry) : (s.modCue c f).freeze = s.freeze := rfl
@[simp] theorem State.modCue_globals (c : CueId) (f : CueEntry → CueEntry) : (s.modCue c f).globals = s.globals := rfl
@[simp] theorem State.modCue_management (c : CueId) (f : CueEntry → CueEntry) : (s.modCue c f).management = s.management := rfl
@[simp] theorem State.modCue_flags (c : CueId) (f : CueEntry → CueEntry) : (s.modCue c f).flags = s.flags := rfl
@[simp] theorem State.modCue_lastClipped (c : CueId) (f : CueEntry → CueEntry) : (s.modCue c f).lastClipped = s.lastClipped := rfl
@[simp] theorem State.modCue_pending (c : CueId) (f : CueEntry → CueEntry) : (s.modCue c f).pending = s.pending := rfl
@[simp] theorem State.modCue_port (c : CueId) (f : CueEntry → CueEntry) (k : LinkId) : (s.modCue c f).port k = s.port k := rfl
@[simp] theorem State.modCue_route (c : CueId) (f : CueEntry → CueEntry) (k : RouteId) : (s.modCue c f).route k = s.route k := rfl

/-! ### mapCues -/

@[simp] theorem State.mapCues_now (f : CueEntry → CueEntry) : (s.mapCues f).now = s.now := rfl
@[simp] theorem State.mapCues_nextTick (f : CueEntry → CueEntry) : (s.mapCues f).nextTick = s.nextTick := rfl
@[simp] theorem State.mapCues_rate1 (f : CueEntry → CueEntry) : (s.mapCues f).rate1 = s.rate1 := rfl
@[simp] theorem State.mapCues_rate0 (f : CueEntry → CueEntry) : (s.mapCues f).rate0 = s.rate0 := rfl
@[simp] theorem State.mapCues_batch (f : CueEntry → CueEntry) : (s.mapCues f).batch = s.batch := rfl
@[simp] theorem State.mapCues_routes (f : CueEntry → CueEntry) : (s.mapCues f).routes = s.routes := rfl
@[simp] theorem State.mapCues_ports (f : CueEntry → CueEntry) : (s.mapCues f).ports = s.ports := rfl
@[simp] theorem State.mapCues_freeze (f : CueEntry → CueEntry) : (s.mapCues f).freeze = s.freeze := rfl
@[simp] theorem State.mapCues_globals (f : CueEntry → CueEntry) : (s.mapCues f).globals = s.globals := rfl
@[simp] theorem State.mapCues_management (f : CueEntry → CueEntry) : (s.mapCues f).management = s.management := rfl
@[simp] theorem State.mapCues_flags (f : CueEntry → CueEntry) : (s.mapCues f).flags = s.flags := rfl
@[simp] theorem State.mapCues_lastClipped (f : CueEntry → CueEntry) : (s.mapCues f).lastClipped = s.lastClipped := rfl
@[simp] theorem State.mapCues_pending (f : CueEntry → CueEntry) : (s.mapCues f).pending = s.pending := rfl
@[simp] theorem State.mapCues_port (f : CueEntry → CueEntry) (k : LinkId) : (s.mapCues f).port k = s.port k := rfl
@[simp] theorem State.mapCues_route (f : CueEntry → CueEntry) (k : RouteId) : (s.mapCues f).route k = s.route k := rfl

/-! ### setRoute -/

@[simp] theorem State.setRoute_now (r : RouteId) (x : Route) : (s.setRoute r x).now = s.now := rfl
@[simp] theorem State.setRoute_nextTick (r : RouteId) (x : Route) : (s.setRoute r x).nextTick = s.nextTick := rfl
@[simp] theorem State.setRoute_rate1 (r : RouteId) (x : Route) : (s.setRoute r x).rate1 = s.rate1 := rfl
@[simp] theorem State.setRoute_rate0 (r : RouteId) (x : Route) : (s.setRoute r x).rate0 = s.rate0 := rfl
@[simp] theorem State.setRoute_cues (r : RouteId) (x : Route) : (s.setRoute r x).cues = s.cues := rfl
@[simp] theorem State.setRoute_batch (r : RouteId) (x : Route) : (s.setRoute r x).batch = s.batch := rfl
@[simp] theorem State.setRoute_ports (r : RouteId) (x : Route) : (s.setRoute r x).ports = s.ports := rfl
@[simp] theorem State.setRoute_freeze (r : RouteId) (x : Route) : (s.setRoute r x).freeze = s.freeze := rfl
@[simp] theorem State.setRoute_globals (r : RouteId) (x : Route) : (s.setRoute r x).globals = s.globals := rfl
@[simp] theorem State.setRoute_management (r : RouteId) (x : Route) : (s.setRoute r x).management = s.management := rfl
@[simp] theorem State.setRoute_flags (r : RouteId) (x : Route) : (s.setRoute r x).flags = s.flags := rfl
@[simp] theorem State.setRoute_lastClipped (r : RouteId) (x : Route) : (s.setRoute r x).lastClipped = s.lastClipped := rfl
@[simp] theorem State.setRoute_pending (r : RouteId) (x : Route) : (s.setRoute r x).pending = s.pending := rfl
@[simp] theorem State.setRoute_port (r : RouteId) (x : Route) (k : LinkId) : (s.setRoute r x).port k = s.port k := rfl
@[simp] theorem State.setRoute_cue (r : RouteId) (x : Route) (k : CueId) : (s.setRoute r x).cue k = s.cue k := rfl

/-! ### mapRoutes -/

@[simp] theorem State.mapRoutes_now (f : Route → Route) : (s.mapRoutes f).now = s.now := rfl
@[simp] theorem State.mapRoutes_nextTick (f : Route → Route) : (s.mapRoutes f).nextTick = s.nextTick := rfl
@[simp] theorem State.mapRoutes_rate1 (f : Route → Route) : (s.mapRoutes f).rate1 = s.rate1 := rfl
@[simp] theorem State.mapRoutes_rate0 (f : Route → Route) : (s.mapRoutes f).rate0 = s.rate0 := rfl
@[simp] theorem State.mapRoutes_cues (f : Route → Route) : (s.mapRoutes f).cues = s.cues := rfl
@[simp] theorem State.mapRoutes_batch (f : Route → Route) : (s.mapRoutes f).batch = s.batch := rfl
@[simp] theorem State.mapRoutes_ports (f : Route → Route) : (s.mapRoutes f).ports = s.ports := rfl
@[simp] theorem State.mapRoutes_freeze (f : Route → Route) : (s.mapRoutes f).freeze = s.freeze := rfl
@[simp] theorem State.mapRoutes_globals (f : Route → Route) : (s.mapRoutes f).globals = s.globals := rfl
@[simp] theorem State.mapRoutes_management (f : Route → Route) : (s.mapRoutes f).management = s.management := rfl
@[simp] theorem State.mapRoutes_flags (f : Route → Route) : (s.mapRoutes f).flags = s.flags := rfl
@[simp] theorem State.mapRoutes_lastClipped (f : Route → Route) : (s.mapRoutes f).lastClipped = s.lastClipped := rfl
@[simp] theorem State.mapRoutes_pending (f : Route → Route) : (s.mapRoutes f).pending = s.pending := rfl
@[simp] theorem State.mapRoutes_port (f : Route → Route) (k : LinkId) : (s.mapRoutes f).port k = s.port k := rfl
@[simp] theorem State.mapRoutes_cue (f : Route → Route) (k : CueId) : (s.mapRoutes f).cue k = s.cue k := rfl

/-! ### updatePeaks -/

@[simp] theorem State.updatePeaks_now (cues : List CueId) : (s.updatePeaks cues).now = s.now := rfl
@[simp] theorem State.updatePeaks_nextTick (cues : List CueId) : (s.updatePeaks cues).nextTick = s.nextTick := rfl
@[simp] theorem State.updatePeaks_rate1 (cues : List CueId) : (s.updatePeaks cues).rate1 = s.rate1 := rfl
@[simp] theorem State.updatePeaks_rate0 (cues : List CueId) : (s.updatePeaks cues).rate0 = s.rate0 := rfl
@[simp] theorem State.updatePeaks_cues (cues : List CueId) : (s.updatePeaks cues).cues = s.cues := rfl
@[simp] theorem State.updatePeaks_batch (cues : List CueId) : (s.updatePeaks cues).batch = s.batch := rfl
@[simp] theorem State.updatePeaks_ports (cues : List CueId) : (s.updatePeaks cues).ports = s.ports := rfl
@[simp] theorem State.updatePeaks_freeze (cues : List CueId) : (s.updatePeaks cues).freeze = s.freeze := rfl
@[simp] theorem State.updatePeaks_globals (cues : List CueId) : (s.updatePeaks cues).globals = s.globals := rfl
@[simp] theorem State.updatePeaks_management (cues : List CueId) : (s.updatePeaks cues).management = s.management := rfl
@[simp] theorem State.updatePeaks_flags (cues : List CueId) : (s.updatePeaks cues).flags = s.flags := rfl
@[simp] theorem State.updatePeaks_lastClipped (cues : List CueId) : (s.updatePeaks cues).lastClipped = s.lastClipped := rfl
@[simp] theorem State.updatePeaks_pending (cues : List CueId) : (s.updatePeaks cues).pending = s.pending := rfl
@[simp] theorem State.updatePeaks_port (cues : List CueId) (k : LinkId) : (s.updatePeaks cues).port k = s.port k := rfl
@[simp] theorem State.updatePeaks_cue (cues : List CueId) (k : CueId) : (s.updatePeaks cues).cue k = s.cue k := rfl

/-! ### clearConverged -/

@[simp] theorem State.clearConverged_now : (s.clearConverged).now = s.now := rfl
@[simp] theorem State.clearConverged_nextTick : (s.clearConverged).nextTick = s.nextTick := rfl
@[simp] theorem State.clearConverged_rate1 : (s.clearConverged).rate1 = s.rate1 := rfl
@[simp] theorem State.clearConverged_rate0 : (s.clearConverged).rate0 = s.rate0 := rfl
@[simp] theorem State.clearConverged_cues : (s.clearConverged).cues = s.cues := rfl
@[simp] theorem State.clearConverged_batch : (s.clearConverged).batch = s.batch := rfl
@[simp] theorem State.clearConverged_ports : (s.clearConverged).ports = s.ports := rfl
@[simp] theorem State.clearConverged_freeze : (s.clearConverged).freeze = s.freeze := rfl
@[simp] theorem State.clearConverged_globals : (s.clearConverged).globals = s.globals := rfl
@[simp] theorem State.clearConverged_management : (s.clearConverged).management = s.management := rfl
@[simp] theorem State.clearConverged_flags : (s.clearConverged).flags = s.flags := rfl
@[simp] theorem State.clearConverged_lastClipped : (s.clearConverged).lastClipped = s.lastClipped := rfl
@[simp] theorem State.clearConverged_pending : (s.clearConverged).pending = s.pending := rfl
@[simp] theorem State.clearConverged_port (k : LinkId) : (s.clearConverged).port k = s.port k := rfl
@[simp] theorem State.clearConverged_cue (k : CueId) : (s.clearConverged).cue k = s.cue k := rfl

/-! ### modManagement -/

@[simp] theorem State.modManagement_now (f : Management → Management) : (s.modManagement f).now = s.now := rfl
@[simp] theorem State.modManagement_nextTick (f : Management → Management) : (s.modManagement f).nextTick = s.nextTick := rfl
@[simp] theorem State.modManagement_rate1 (f : Management → Management) : (s.modManagement f).rate1 = s.rate1 := rfl
@[simp] theorem State.modManagement_rate0 (f : Management → Management) : (s.modManagement f).rate0 = s.rate0 := rfl
@[simp] theorem State.modManagement_cues (f : Management → Management) : (s.modManagement f).cues = s.cues := rfl
@[simp] theorem State.modManagement_batch (f : Management → Management) : (s.modManagement f).batch = s.batch := rfl
@[simp] theorem State.modManagement_routes (f : Management → Management) : (s.modManagement f).routes = s.routes := rfl
@[simp] theorem State.modManagement_ports (f : Management → Management) : (s.modManagement f).ports = s.ports := rfl
@[simp] theorem State.modManagement_freeze (f : Management → Management) : (s.modManagement f).freeze = s.freeze := rfl
@[simp] theorem State.modManagement_globals (f : Management → Management) : (s.modManagement f).globals = s.globals := rfl
@[simp] theorem State.modManagement_flags (f : Management → Management) : (s.modManagement f).flags = s.flags := rfl
@[simp] theorem State.modManagement_lastClipped (f : Management → Management) : (s.modManagement f).lastClipped = s.lastClipped := rfl
@[simp] theorem State.modManagement_pending (f : Management → Management) : (s.modManagement f).pending = s.pending := rfl
@[simp] theorem State.modManagement_port (f : Management → Management) (k : LinkId) : (s.modManagement f).port k = s.port k := rfl
@[simp] theorem State.modManagement_cue (f : Management → Management) (k : CueId) : (s.modManagement f).cue k = s.cue k := rfl
@[simp] theorem State.modManagement_route (f : Management → Management) (k : RouteId) : (s.modManagement f).route k = s.route k := rfl

/-! ### modFlags -/

@[simp] theorem State.modFlags_now (f : GlobalFlags → GlobalFlags) : (s.modFlags f).now = s.now := rfl
@[simp] theorem State.modFlags_nextTick (f : GlobalFlags → GlobalFlags) : (s.modFlags f).nextTick = s.nextTick := rfl
@[simp] theorem State.modFlags_rate1 (f : GlobalFlags → GlobalFlags) : (s.modFlags f).rate1 = s.rate1 := rfl
@[simp] theorem State.modFlags_rate0 (f : GlobalFlags → GlobalFlags) : (s.modFlags f).rate0 = s.rate0 := rfl
@[simp] theorem State.modFlags_cues (f : GlobalFlags → GlobalFlags) : (s.modFlags f).cues = s.cues := rfl
@[simp] theorem State.modFlags_batch (f : GlobalFlags → GlobalFlags) : (s.modFlags f).batch = s.batch := rfl
@[simp] theorem State.modFlags_routes (f : GlobalFlags → GlobalFlags) : (s.modFlags f).routes = s.routes := rfl
@[simp] theorem State.modFlags_ports (f : GlobalFlags → GlobalFlags) : (s.modFlags f).ports = s.ports := rfl
@[simp] theorem State.modFlags_freeze (f : GlobalFlags → GlobalFlags) : (s.modFlags f).freeze = s.freeze := rfl
@[simp] theorem State.modFlags_globals (f : GlobalFlags → GlobalFlags) : (s.modFlags f).globals = s.globals := rfl
@[simp] theorem State.modFlags_management (f : GlobalFlags → GlobalFlags) : (s.modFlags f).management = s.management := rfl
@[simp] theorem State.modFlags_lastClipped (f : GlobalFlags → GlobalFlags) : (s.modFlags f).lastClipped = s.lastClipped := rfl
@[simp] theorem State.modFlags_pending (f : GlobalFlags → GlobalFlags) : (s.modFlags f).pending = s.pending := rfl
@[simp] theorem State.modFlags_port (f : GlobalFlags → GlobalFlags) (k : LinkId) : (s.modFlags f).port k = s.port k := rfl
@[simp] theorem State.modFlags_cue (f : GlobalFlags → GlobalFlags) (k : CueId) : (s.modFlags f).cue k = s.cue k := rfl
@[simp] theorem State.modFlags_route (f : GlobalFlags → GlobalFlags) (k : RouteId) : (s.modFlags f).route k = s.route k := rfl

/-! ### reachTime -/

@[simp] theorem State.reachTime_nextTick (t : Time) : (s.reachTime t).nextTick = s.nextTick := rfl
@[simp] theorem State.reachTime_rate1 (t : Time) : (s.reachTime t).rate1 = s.rate1 := rfl
@[simp] theorem State.reachTime_rate0 (t : Time) : (s.reachTime t).rate0 = s.rate0 := rfl
@[simp] theorem State.reachTime_cues (t : Time) : (s.reachTime t).cues = s.cues := rfl
@[simp] theorem State.reachTime_batch (t : Time) : (s.reachTime t).batch = s.batch := rfl
@[simp] theorem State.reachTime_routes (t : Time) : (s.reachTime t).routes = s.routes := rfl
@[simp] theorem State.reachTime_ports (t : Time) : (s.reachTime t).ports = s.ports := rfl
@[simp] theorem State.reachTime_freeze (t : Time) : (s.reachTime t).freeze = s.freeze := rfl
@[simp] theorem State.reachTime_globals (t : Time) : (s.reachTime t).globals = s.globals := rfl
@[simp] theorem State.reachTime_management (t : Time) : (s.reachTime t).management = s.management := rfl
@[simp] theorem State.reachTime_flags (t : Time) : (s.reachTime t).flags = s.flags := rfl
@[simp] theorem State.reachTime_lastClipped (t : Time) : (s.reachTime t).lastClipped = s.lastClipped := rfl
@[simp] theorem State.reachTime_pending (t : Time) : (s.reachTime t).pending = s.pending := rfl
@[simp] theorem State.reachTime_port (t : Time) (k : LinkId) : (s.reachTime t).port k = s.port k := rfl
@[simp] theorem State.reachTime_cue (t : Time) (k : CueId) : (s.reachTime t).cue k = s.cue k := rfl
@[simp] theorem State.reachTime_route (t : Time) (k : RouteId) : (s.reachTime t).route k = s.route k := rfl

/-! ### startTick -/

@[simp] theorem State.startTick_rate1 : (s.startTick).rate1 = s.rate1 := rfl
@[simp] theorem State.startTick_rate0 : (s.startTick).rate0 = s.rate0 := rfl
@[simp] theorem State.startTick_cues : (s.startTick).cues = s.cues := rfl
@[simp] theorem State.startTick_batch : (s.startTick).batch = s.batch := rfl
@[simp] theorem State.startTick_routes : (s.startTick).routes = s.routes := rfl
@[simp] theorem State.startTick_ports : (s.startTick).ports = s.ports := rfl
@[simp] theorem State.startTick_freeze : (s.startTick).freeze = s.freeze := rfl
@[simp] theorem State.startTick_globals : (s.startTick).globals = s.globals := rfl
@[simp] theorem State.startTick_management : (s.startTick).management = s.management := rfl
@[simp] theorem State.startTick_flags : (s.startTick).flags = s.flags := rfl
@[simp] theorem State.startTick_lastClipped : (s.startTick).lastClipped = s.lastClipped := rfl
@[simp] theorem State.startTick_pending : (s.startTick).pending = s.pending := rfl
@[simp] theorem State.startTick_port (k : LinkId) : (s.startTick).port k = s.port k := rfl
@[simp] theorem State.startTick_cue (k : CueId) : (s.startTick).cue k = s.cue k := rfl
@[simp] theorem State.startTick_route (k : RouteId) : (s.startTick).route k = s.route k := rfl

/-! ### idle -/

@[simp] theorem State.idle_nextTick : (s.idle).nextTick = s.nextTick := rfl
@[simp] theorem State.idle_rate1 : (s.idle).rate1 = s.rate1 := rfl
@[simp] theorem State.idle_rate0 : (s.idle).rate0 = s.rate0 := rfl
@[simp] theorem State.idle_cues : (s.idle).cues = s.cues := rfl
@[simp] theorem State.idle_batch : (s.idle).batch = s.batch := rfl
@[simp] theorem State.idle_routes : (s.idle).routes = s.routes := rfl
@[simp] theorem State.idle_ports : (s.idle).ports = s.ports := rfl
@[simp] theorem State.idle_freeze : (s.idle).freeze = s.freeze := rfl
@[simp] theorem State.idle_globals : (s.idle).globals = s.globals := rfl
@[simp] theorem State.idle_management : (s.idle).management = s.management := rfl
@[simp] theorem State.idle_flags : (s.idle).flags = s.flags := rfl
@[simp] theorem State.idle_lastClipped : (s.idle).lastClipped = s.lastClipped := rfl
@[simp] theorem State.idle_pending : (s.idle).pending = s.pending := rfl
@[simp] theorem State.idle_port (k : LinkId) : (s.idle).port k = s.port k := rfl
@[simp] theorem State.idle_cue (k : CueId) : (s.idle).cue k = s.cue k := rfl
@[simp] theorem State.idle_route (k : RouteId) : (s.idle).route k = s.route k := rfl

/-! ### endRamp -/

@[simp] theorem State.endRamp_now (f : FreezeState) : (s.endRamp f).now = s.now := rfl
@[simp] theorem State.endRamp_nextTick (f : FreezeState) : (s.endRamp f).nextTick = s.nextTick := rfl
@[simp] theorem State.endRamp_rate1 (f : FreezeState) : (s.endRamp f).rate1 = s.rate1 := rfl
@[simp] theorem State.endRamp_rate0 (f : FreezeState) : (s.endRamp f).rate0 = s.rate0 := rfl
@[simp] theorem State.endRamp_cues (f : FreezeState) : (s.endRamp f).cues = s.cues := rfl
@[simp] theorem State.endRamp_batch (f : FreezeState) : (s.endRamp f).batch = s.batch := rfl
@[simp] theorem State.endRamp_routes (f : FreezeState) : (s.endRamp f).routes = s.routes := rfl
@[simp] theorem State.endRamp_ports (f : FreezeState) : (s.endRamp f).ports = s.ports := rfl
@[simp] theorem State.endRamp_globals (f : FreezeState) : (s.endRamp f).globals = s.globals := rfl
@[simp] theorem State.endRamp_management (f : FreezeState) : (s.endRamp f).management = s.management := rfl
@[simp] theorem State.endRamp_flags (f : FreezeState) : (s.endRamp f).flags = s.flags := rfl
@[simp] theorem State.endRamp_lastClipped (f : FreezeState) : (s.endRamp f).lastClipped = s.lastClipped := rfl
@[simp] theorem State.endRamp_pending (f : FreezeState) : (s.endRamp f).pending = s.pending := rfl
@[simp] theorem State.endRamp_port (f : FreezeState) (k : LinkId) : (s.endRamp f).port k = s.port k := rfl
@[simp] theorem State.endRamp_cue (f : FreezeState) (k : CueId) : (s.endRamp f).cue k = s.cue k := rfl
@[simp] theorem State.endRamp_route (f : FreezeState) (k : RouteId) : (s.endRamp f).route k = s.route k := rfl

/-! ### expireFreeze -/

@[simp] theorem State.expireFreeze_now : (s.expireFreeze).now = s.now := rfl
@[simp] theorem State.expireFreeze_nextTick : (s.expireFreeze).nextTick = s.nextTick := rfl
@[simp] theorem State.expireFreeze_rate1 : (s.expireFreeze).rate1 = s.rate1 := rfl
@[simp] theorem State.expireFreeze_rate0 : (s.expireFreeze).rate0 = s.rate0 := rfl
@[simp] theorem State.expireFreeze_cues : (s.expireFreeze).cues = s.cues := rfl
@[simp] theorem State.expireFreeze_batch : (s.expireFreeze).batch = s.batch := rfl
@[simp] theorem State.expireFreeze_routes : (s.expireFreeze).routes = s.routes := rfl
@[simp] theorem State.expireFreeze_ports : (s.expireFreeze).ports = s.ports := rfl
@[simp] theorem State.expireFreeze_globals : (s.expireFreeze).globals = s.globals := rfl
@[simp] theorem State.expireFreeze_management : (s.expireFreeze).management = s.management := rfl
@[simp] theorem State.expireFreeze_lastClipped : (s.expireFreeze).lastClipped = s.lastClipped := rfl
@[simp] theorem State.expireFreeze_pending : (s.expireFreeze).pending = s.pending := rfl
@[simp] theorem State.expireFreeze_port (k : LinkId) : (s.expireFreeze).port k = s.port k := rfl
@[simp] theorem State.expireFreeze_cue (k : CueId) : (s.expireFreeze).cue k = s.cue k := rfl
@[simp] theorem State.expireFreeze_route (k : RouteId) : (s.expireFreeze).route k = s.route k := rfl

/-! ### expireResume -/

@[simp] theorem State.expireResume_now : (s.expireResume).now = s.now := rfl
@[simp] theorem State.expireResume_nextTick : (s.expireResume).nextTick = s.nextTick := rfl
@[simp] theorem State.expireResume_rate1 : (s.expireResume).rate1 = s.rate1 := rfl
@[simp] theorem State.expireResume_rate0 : (s.expireResume).rate0 = s.rate0 := rfl
@[simp] theorem State.expireResume_cues : (s.expireResume).cues = s.cues := rfl
@[simp] theorem State.expireResume_batch : (s.expireResume).batch = s.batch := rfl
@[simp] theorem State.expireResume_routes : (s.expireResume).routes = s.routes := rfl
@[simp] theorem State.expireResume_ports : (s.expireResume).ports = s.ports := rfl
@[simp] theorem State.expireResume_globals : (s.expireResume).globals = s.globals := rfl
@[simp] theorem State.expireResume_management : (s.expireResume).management = s.management := rfl
@[simp] theorem State.expireResume_lastClipped : (s.expireResume).lastClipped = s.lastClipped := rfl
@[simp] theorem State.expireResume_pending : (s.expireResume).pending = s.pending := rfl
@[simp] theorem State.expireResume_port (k : LinkId) : (s.expireResume).port k = s.port k := rfl
@[simp] theorem State.expireResume_cue (k : CueId) : (s.expireResume).cue k = s.cue k := rfl
@[simp] theorem State.expireResume_route (k : RouteId) : (s.expireResume).route k = s.route k := rfl

/-! ### setEventCount -/

@[simp] theorem State.setEventCount_now (l : LinkId) (n : Nat) : (s.setEventCount l n).now = s.now := rfl
@[simp] theorem State.setEventCount_nextTick (l : LinkId) (n : Nat) : (s.setEventCount l n).nextTick = s.nextTick := rfl
@[simp] theorem State.setEventCount_rate1 (l : LinkId) (n : Nat) : (s.setEventCount l n).rate1 = s.rate1 := rfl
@[simp] theorem State.setEventCount_rate0 (l : LinkId) (n : Nat) : (s.setEventCount l n).rate0 = s.rate0 := rfl
@[simp] theorem State.setEventCount_cues (l : LinkId) (n : Nat) : (s.setEventCount l n).cues = s.cues := rfl
@[simp] theorem State.setEventCount_batch (l : LinkId) (n : Nat) : (s.setEventCount l n).batch = s.batch := rfl
@[simp] theorem State.setEventCount_routes (l : LinkId) (n : Nat) : (s.setEventCount l n).routes = s.routes := rfl
@[simp] theorem State.setEventCount_freeze (l : LinkId) (n : Nat) : (s.setEventCount l n).freeze = s.freeze := rfl
@[simp] theorem State.setEventCount_globals (l : LinkId) (n : Nat) : (s.setEventCount l n).globals = s.globals := rfl
@[simp] theorem State.setEventCount_management (l : LinkId) (n : Nat) : (s.setEventCount l n).management = s.management := rfl
@[simp] theorem State.setEventCount_flags (l : LinkId) (n : Nat) : (s.setEventCount l n).flags = s.flags := rfl
@[simp] theorem State.setEventCount_lastClipped (l : LinkId) (n : Nat) : (s.setEventCount l n).lastClipped = s.lastClipped := rfl
@[simp] theorem State.setEventCount_pending (l : LinkId) (n : Nat) : (s.setEventCount l n).pending = s.pending := rfl
@[simp] theorem State.setEventCount_cue (l : LinkId) (n : Nat) (k : CueId) : (s.setEventCount l n).cue k = s.cue k := rfl
@[simp] theorem State.setEventCount_route (l : LinkId) (n : Nat) (k : RouteId) : (s.setEventCount l n).route k = s.route k := rfl

/-! ### send -/

@[simp] theorem State.send_now (l : LinkId) (summary kind : Byte) (address : Bool) (tag : Word) (payload : List Byte) : (s.send l summary kind address tag payload).now = s.now := rfl
@[simp] theorem State.send_nextTick (l : LinkId) (summary kind : Byte) (address : Bool) (tag : Word) (payload : List Byte) : (s.send l summary kind address tag payload).nextTick = s.nextTick := rfl
@[simp] theorem State.send_rate1 (l : LinkId) (summary kind : Byte) (address : Bool) (tag : Word) (payload : List Byte) : (s.send l summary kind address tag payload).rate1 = s.rate1 := rfl
@[simp] theorem State.send_rate0 (l : LinkId) (summary kind : Byte) (address : Bool) (tag : Word) (payload : List Byte) : (s.send l summary kind address tag payload).rate0 = s.rate0 := rfl
@[simp] theorem State.send_cues (l : LinkId) (summary kind : Byte) (address : Bool) (tag : Word) (payload : List Byte) : (s.send l summary kind address tag payload).cues = s.cues := rfl
@[simp] theorem State.send_batch (l : LinkId) (summary kind : Byte) (address : Bool) (tag : Word) (payload : List Byte) : (s.send l summary kind address tag payload).batch = s.batch := rfl
@[simp] theorem State.send_routes (l : LinkId) (summary kind : Byte) (address : Bool) (tag : Word) (payload : List Byte) : (s.send l summary kind address tag payload).routes = s.routes := rfl
@[simp] theorem State.send_freeze (l : LinkId) (summary kind : Byte) (address : Bool) (tag : Word) (payload : List Byte) : (s.send l summary kind address tag payload).freeze = s.freeze := rfl
@[simp] theorem State.send_globals (l : LinkId) (summary kind : Byte) (address : Bool) (tag : Word) (payload : List Byte) : (s.send l summary kind address tag payload).globals = s.globals := rfl
@[simp] theorem State.send_management (l : LinkId) (summary kind : Byte) (address : Bool) (tag : Word) (payload : List Byte) : (s.send l summary kind address tag payload).management = s.management := rfl
@[simp] theorem State.send_flags (l : LinkId) (summary kind : Byte) (address : Bool) (tag : Word) (payload : List Byte) : (s.send l summary kind address tag payload).flags = s.flags := rfl
@[simp] theorem State.send_lastClipped (l : LinkId) (summary kind : Byte) (address : Bool) (tag : Word) (payload : List Byte) : (s.send l summary kind address tag payload).lastClipped = s.lastClipped := rfl
@[simp] theorem State.send_pending (l : LinkId) (summary kind : Byte) (address : Bool) (tag : Word) (payload : List Byte) : (s.send l summary kind address tag payload).pending = s.pending := rfl
@[simp] theorem State.send_cue (l : LinkId) (summary kind : Byte) (address : Bool) (tag : Word) (payload : List Byte) (k : CueId) : (s.send l summary kind address tag payload).cue k = s.cue k := rfl
@[simp] theorem State.send_route (l : LinkId) (summary kind : Byte) (address : Bool) (tag : Word) (payload : List Byte) (k : RouteId) : (s.send l summary kind address tag payload).route k = s.route k := rfl

/-! ### abandonBatch -/

@[simp] theorem State.abandonBatch_now : (s.abandonBatch).now = s.now := rfl
@[simp] theorem State.abandonBatch_nextTick : (s.abandonBatch).nextTick = s.nextTick := rfl
@[simp] theorem State.abandonBatch_rate1 : (s.abandonBatch).rate1 = s.rate1 := rfl
@[simp] theorem State.abandonBatch_rate0 : (s.abandonBatch).rate0 = s.rate0 := rfl
@[simp] theorem State.abandonBatch_routes : (s.abandonBatch).routes = s.routes := rfl
@[simp] theorem State.abandonBatch_ports : (s.abandonBatch).ports = s.ports := rfl
@[simp] theorem State.abandonBatch_freeze : (s.abandonBatch).freeze = s.freeze := rfl
@[simp] theorem State.abandonBatch_globals : (s.abandonBatch).globals = s.globals := rfl
@[simp] theorem State.abandonBatch_management : (s.abandonBatch).management = s.management := rfl
@[simp] theorem State.abandonBatch_flags : (s.abandonBatch).flags = s.flags := rfl
@[simp] theorem State.abandonBatch_lastClipped : (s.abandonBatch).lastClipped = s.lastClipped := rfl
@[simp] theorem State.abandonBatch_pending : (s.abandonBatch).pending = s.pending := rfl
@[simp] theorem State.abandonBatch_port (k : LinkId) : (s.abandonBatch).port k = s.port k := rfl
@[simp] theorem State.abandonBatch_route (k : RouteId) : (s.abandonBatch).route k = s.route k := rfl

/-! ### timeOutBatch -/

@[simp] theorem State.timeOutBatch_now : (s.timeOutBatch).now = s.now := rfl
@[simp] theorem State.timeOutBatch_nextTick : (s.timeOutBatch).nextTick = s.nextTick := rfl
@[simp] theorem State.timeOutBatch_rate1 : (s.timeOutBatch).rate1 = s.rate1 := rfl
@[simp] theorem State.timeOutBatch_rate0 : (s.timeOutBatch).rate0 = s.rate0 := rfl
@[simp] theorem State.timeOutBatch_routes : (s.timeOutBatch).routes = s.routes := rfl
@[simp] theorem State.timeOutBatch_ports : (s.timeOutBatch).ports = s.ports := rfl
@[simp] theorem State.timeOutBatch_freeze : (s.timeOutBatch).freeze = s.freeze := rfl
@[simp] theorem State.timeOutBatch_globals : (s.timeOutBatch).globals = s.globals := rfl
@[simp] theorem State.timeOutBatch_management : (s.timeOutBatch).management = s.management := rfl
@[simp] theorem State.timeOutBatch_lastClipped : (s.timeOutBatch).lastClipped = s.lastClipped := rfl
@[simp] theorem State.timeOutBatch_pending : (s.timeOutBatch).pending = s.pending := rfl
@[simp] theorem State.timeOutBatch_port (k : LinkId) : (s.timeOutBatch).port k = s.port k := rfl
@[simp] theorem State.timeOutBatch_route (k : RouteId) : (s.timeOutBatch).route k = s.route k := rfl

/-! ### actOnResetArm -/

@[simp] theorem State.actOnResetArm_now (t : RequestTraits) : (s.actOnResetArm t).now = s.now := rfl
@[simp] theorem State.actOnResetArm_nextTick (t : RequestTraits) : (s.actOnResetArm t).nextTick = s.nextTick := rfl
@[simp] theorem State.actOnResetArm_rate1 (t : RequestTraits) : (s.actOnResetArm t).rate1 = s.rate1 := rfl
@[simp] theorem State.actOnResetArm_rate0 (t : RequestTraits) : (s.actOnResetArm t).rate0 = s.rate0 := rfl
@[simp] theorem State.actOnResetArm_cues (t : RequestTraits) : (s.actOnResetArm t).cues = s.cues := rfl
@[simp] theorem State.actOnResetArm_batch (t : RequestTraits) : (s.actOnResetArm t).batch = s.batch := rfl
@[simp] theorem State.actOnResetArm_routes (t : RequestTraits) : (s.actOnResetArm t).routes = s.routes := rfl
@[simp] theorem State.actOnResetArm_ports (t : RequestTraits) : (s.actOnResetArm t).ports = s.ports := rfl
@[simp] theorem State.actOnResetArm_freeze (t : RequestTraits) : (s.actOnResetArm t).freeze = s.freeze := rfl
@[simp] theorem State.actOnResetArm_globals (t : RequestTraits) : (s.actOnResetArm t).globals = s.globals := rfl
@[simp] theorem State.actOnResetArm_flags (t : RequestTraits) : (s.actOnResetArm t).flags = s.flags := rfl
@[simp] theorem State.actOnResetArm_lastClipped (t : RequestTraits) : (s.actOnResetArm t).lastClipped = s.lastClipped := rfl
@[simp] theorem State.actOnResetArm_pending (t : RequestTraits) : (s.actOnResetArm t).pending = s.pending := rfl
@[simp] theorem State.actOnResetArm_port (t : RequestTraits) (k : LinkId) : (s.actOnResetArm t).port k = s.port k := rfl
@[simp] theorem State.actOnResetArm_cue (t : RequestTraits) (k : CueId) : (s.actOnResetArm t).cue k = s.cue k := rfl
@[simp] theorem State.actOnResetArm_route (t : RequestTraits) (k : RouteId) : (s.actOnResetArm t).route k = s.route k := rfl

end Sys2Proof.Machine
end

