-- ==== Sys2Proof/Laws/Tables.lean ====
section
/-! SUPPORT. Reading a table after writing it: the four links, the cue table, the route table, and vectors written place
by place. -/

namespace Sys2Proof.Machine

/-! ### Vectors -/

@[simp] theorem tabulate_get {α : Type} {n : Nat} (f : Fin n → α) (i : Nat) (h : i < n) :
    (tabulate n f)[i] = f ⟨i, h⟩ := by
  simp [tabulate, Vector.getElem_mk]

@[simp] theorem mapEach_get {α : Type} {n : Nat} (f : α → α) (v : Vector α n) (i : Nat) (h : i < n) :
    (mapEach f v)[i] = f v[i] := by
  simp [mapEach, Vector.getElem_mk]

/-! ### The four links -/

@[simp] theorem PerLink.get_set_same {α : Type} (p : PerLink α) (l : LinkId) (x : α) : (p.set l x).get l = x := by
  cases l <;> rfl

theorem PerLink.get_set_ne {α : Type} (p : PerLink α) {l k : LinkId} (x : α) (h : k ≠ l) :
    (p.set l x).get k = p.get k := by
  cases l <;> cases k <;> simp_all [PerLink.set, PerLink.get]

@[simp] theorem PerLink.set_set {α : Type} (p : PerLink α) (l : LinkId) (x y : α) : (p.set l x).set l y = p.set l y := by
  cases l <;> rfl

@[simp] theorem PerLink.set_get {α : Type} (p : PerLink α) (l : LinkId) : p.set l (p.get l) = p := by
  cases l <;> rfl

theorem PerLink.ext_get {α : Type} {p q : PerLink α} (h : ∀ l, p.get l = q.get l) : p = q := by
  cases p; cases q
  have hd := h .d; have hv := h .v; have ha := h .a; have hc := h .c
  simp_all [PerLink.get]

theorem State.port_eq (s : State) (l : LinkId) : s.port l = s.ports.get l := rfl

@[simp] theorem State.setPort_port_same (s : State) (l : LinkId) (p : Port) : (s.setPort l p).port l = p :=
  PerLink.get_set_same _ _ _

theorem State.setPort_port_ne (s : State) {l k : LinkId} (p : Port) (h : k ≠ l) : (s.setPort l p).port k = s.port k :=
  PerLink.get_set_ne _ _ h

theorem State.setPort_port (s : State) (l k : LinkId) (p : Port) :
    (s.setPort l p).port k = if k = l then p else s.port k := by
  split
  · next h => subst h; simp
  · next h => exact s.setPort_port_ne p h

@[simp] theorem State.modPort_port_same (s : State) (l : LinkId) (f : Port → Port) :
    (s.modPort l f).port l = f (s.port l) := s.setPort_port_same _ _

theorem State.modPort_port (s : State) (l k : LinkId) (f : Port → Port) :
    (s.modPort l f).port k = if k = l then f (s.port l) else s.port k := s.setPort_port _ _ _

theorem State.modPort_port_ne (s : State) {l k : LinkId} (f : Port → Port) (h : k ≠ l) :
    (s.modPort l f).port k = s.port k := s.setPort_port_ne _ h

@[simp] theorem State.setPort_setPort (s : State) (l : LinkId) (p q : Port) :
    (s.setPort l p).setPort l q = s.setPort l q := by simp [State.setPort]

@[simp] theorem State.setPort_self (s : State) (l : LinkId) : s.setPort l (s.port l) = s := by
  simp [State.setPort, State.port]

theorem State.modPort_eq (s : State) (l : LinkId) (f : Port → Port) : s.modPort l f = s.setPort l (f (s.port l)) := rfl

theorem State.modLinkFlags_eq (s : State) (l : LinkId) (f : LinkFlags → LinkFlags) :
    s.modLinkFlags l f = s.setPort l { s.port l with flags := f (s.port l).flags } := rfl

theorem State.modLinkFlags_port (s : State) (l k : LinkId) (f : LinkFlags → LinkFlags) :
    (s.modLinkFlags l f).port k = if k = l then { s.port l with flags := f (s.port l).flags } else s.port k :=
  s.setPort_port _ _ _

theorem State.running_iff (s : State) (l : LinkId) : s.running l = true ↔ (s.port l).state = .running := by
  simp [State.running]

/-! ### The cue table -/

theorem State.setCue_cue (s : State) (c k : CueId) (e : CueEntry) :
    (s.setCue c e).cue k = if k = c then e else s.cue k := by
  simp only [State.setCue, State.cue, Vector.getElem_set]
  by_cases h : k = c
  · subst h; simp
  · have : ¬ c.val = k.val := fun e => h (Fin.ext e.symm)
    simp [h, this]

@[simp] theorem State.setCue_cue_same (s : State) (c : CueId) (e : CueEntry) : (s.setCue c e).cue c = e := by
  simp [State.setCue_cue]

theorem State.modCue_cue (s : State) (c k : CueId) (f : CueEntry → CueEntry) :
    (s.modCue c f).cue k = if k = c then f (s.cue c) else s.cue k := s.setCue_cue _ _ _

@[simp] theorem State.mapCues_cue (s : State) (f : CueEntry → CueEntry) (k : CueId) :
    (s.mapCues f).cue k = f (s.cue k) := by simp [State.mapCues, State.cue]

@[simp] theorem State.setCue_self (s : State) (c : CueId) : s.setCue c (s.cue c) = s := by
  simp [State.setCue, State.cue]

@[simp] theorem State.abandonBatch_cue (s : State) (k : CueId) :
    s.abandonBatch.cue k = { s.cue k with pending := none } := by
  show (s.mapCues _).cue k = _
  simp

/-! ### The route table -/

theorem State.setRoute_route (s : State) (r k : RouteId) (x : Route) :
    (s.setRoute r x).route k = if k = r then x else s.route k := by
  simp only [State.setRoute, State.route, Vector.getElem_set]
  by_cases h : k = r
  · subst h; simp
  · have : ¬ r.val = k.val := fun e => h (Fin.ext e.symm)
    simp [h, this]

@[simp] theorem State.setRoute_route_same (s : State) (r : RouteId) (x : Route) : (s.setRoute r x).route r = x := by
  simp [State.setRoute_route]

@[simp] theorem State.mapRoutes_route (s : State) (f : Route → Route) (k : RouteId) :
    (s.mapRoutes f).route k = f (s.route k) := by simp [State.mapRoutes, State.route]

@[simp] theorem State.updatePeaks_route (s : State) (cues : List CueId) (k : RouteId) :
    (s.updatePeaks cues).route k = s.peakUpdated cues (s.route k) := s.mapRoutes_route _ _

@[simp] theorem State.clearConverged_route (s : State) (k : RouteId) :
    s.clearConverged.route k = { s.route k with converged := false } := s.mapRoutes_route _ _

/-- A test holds of every route exactly when it holds at every id. -/
theorem State.routes_all (s : State) (test : Route → Bool) :
    (s.routes.toArray.toList.all test) = true ↔ ∀ id, test (s.route id) = true := by
  rw [List.all_eq_true]
  constructor
  · intro h id
    exact h _ (by simp [State.route])
  · intro h x hx
    obtain ⟨i, hi, rfl⟩ := List.getElem_of_mem hx
    have hi' : i < 384 := by simpa using hi
    simpa [State.route] using h ⟨i, hi'⟩

/-- A test holds of some route exactly when it holds at some id. -/
theorem State.routes_any (s : State) (test : Route → Bool) :
    (s.routes.toArray.toList.any test) = true ↔ ∃ id, test (s.route id) = true := by
  rw [List.any_eq_true]
  constructor
  · rintro ⟨x, hx, h⟩
    obtain ⟨i, hi, rfl⟩ := List.getElem_of_mem hx
    have hi' : i < 384 := by simpa using hi
    exact ⟨⟨i, hi'⟩, by simpa [State.route] using h⟩
  · rintro ⟨id, h⟩
    exact ⟨_, by simp [State.route], h⟩

/-- A test holds of some slot of a plan exactly when it holds at some slot number. -/
theorem plan_any (p : Plan) (test : Slot → Bool) :
    (p.toArray.toList.any test) = true ↔ ∃ k : Fin 6, test p[k.val] = true := by
  rw [List.any_eq_true]
  constructor
  · rintro ⟨x, hx, h⟩
    obtain ⟨i, hi, rfl⟩ := List.getElem_of_mem hx
    have hi' : i < 6 := by simpa using hi
    exact ⟨⟨i, hi'⟩, by simpa using h⟩
  · rintro ⟨k, h⟩
    exact ⟨_, by simp, h⟩

/-- A test holds of every slot of a plan exactly when it holds at every slot number. -/
theorem plan_all (p : Plan) (test : Slot → Bool) :
    (p.toArray.toList.all test) = true ↔ ∀ k : Fin 6, test p[k.val] = true := by
  rw [List.all_eq_true]
  constructor
  · intro h k
    exact h _ (by simp)
  · intro h x hx
    obtain ⟨i, hi, rfl⟩ := List.getElem_of_mem hx
    have hi' : i < 6 := by simpa using hi
    simpa using h ⟨i, hi'⟩

end Sys2Proof.Machine
end

