-- ==== Sys2Proof/Laws/Operations.lean ====
section
/-! SUPPORT. What each shared operation can do, said once: the operation as one record update, with the condition under
which it makes it. Proofs about commands cite these and do not unfold the operations. -/

namespace Sys2Proof.Machine

/-! ### Clips, offers -/

theorem State.noteClip_eq (s : State) (id : RouteId) (b : Bool) :
    s.noteClip id b =
      { s with flags := { s.flags with clipped := s.flags.clipped || b }
               lastClipped := if b then id else s.lastClipped } := by
  cases b <;> simp [State.noteClip]

@[simp] theorem State.noteClip_port (s : State) (id : RouteId) (b : Bool) (l : LinkId) :
    (s.noteClip id b).port l = s.port l := by simp [State.noteClip_eq, State.port]

@[simp] theorem State.noteClip_cue (s : State) (id : RouteId) (b : Bool) (c : CueId) :
    (s.noteClip id b).cue c = s.cue c := by simp [State.noteClip_eq, State.cue]

@[simp] theorem State.noteClip_route (s : State) (id : RouteId) (b : Bool) (k : RouteId) :
    (s.noteClip id b).route k = s.route k := by simp [State.noteClip_eq, State.route]

/-- Everything an offered CUE_EVENT can do: change the queue and the flags of its link (R73). -/
theorem State.offerCueEvent_spec (s : State) (l : LinkId) (e : CueEvent) :
    ∃ q f, s.offerCueEvent l e = s.setPort l { s.port l with queue := q, flags := f } := by
  unfold State.offerCueEvent
  split
  · exact ⟨_, (s.port l).flags, rfl⟩
  · split
    · exact ⟨_, (s.port l).flags, rfl⟩
    · exact ⟨(s.port l).queue, _, rfl⟩

/-- An offered REPLY joins Link D's queue when there is room and the link is RUNNING (R74). -/
theorem State.offerReply_joins (s : State) (tag code : Byte) (r : ResultCode) (n : Nat) (data : List Byte)
    (hr : (s.port .d).state = .running) (hq : (s.port .d).queue.length < 16) :
    s.offerReply tag code r n data = s.setPort .d { s.port .d with queue := (s.port .d).queue ++
      [.reply { tag := tag, code := code, result := r.code, count := BitVec.ofNat 8 n, data := data
                eligible := s.now }] } := by
  simp [State.offerReply, State.running, State.level, hr, hq, Config.queueCapacity, State.modPort]

/-- An offered REPLY is lost otherwise (R74). -/
theorem State.offerReply_lost (s : State) (tag code : Byte) (r : ResultCode) (n : Nat) (data : List Byte)
    (h : (s.port .d).state ≠ .running ∨ 16 ≤ (s.port .d).queue.length) :
    s.offerReply tag code r n data = { s with flags := { s.flags with replyLost := true } } := by
  unfold State.offerReply
  rw [if_neg]
  · rfl
  · simp only [State.running, State.level, Config.queueCapacity, Bool.and_eq_true, decide_eq_true_eq]
    rintro ⟨h1, h2⟩
    rcases h with h | h
    · exact h h1
    · exact absurd (of_decide_eq_true h2) (Nat.not_lt.mpr h)

/-! ### Batch and ramp -/

theorem State.tearBatch_closed (s : State) (h : s.batch.isOpen = false) : s.tearBatch = s := by
  simp [State.tearBatch, h]

theorem State.tearBatch_open (s : State) (h : s.batch.isOpen = true) :
    s.tearBatch = { s.abandonBatch with flags := { s.flags with stepTorn := true } } := by
  simp [State.tearBatch, h, State.modFlags]

/-- A re-evaluation can change the freeze controller alone (R112). -/
theorem State.reevaluate_eq (s : State) : s.reevaluate = { s with freeze := s.reevaluate.freeze } := by
  unfold State.reevaluate
  split <;> (try split) <;> rfl

@[simp] theorem State.reevaluate_port (s : State) (l : LinkId) : s.reevaluate.port l = s.port l := by
  rw [State.reevaluate_eq]; rfl

@[simp] theorem State.reevaluate_cue (s : State) (c : CueId) : s.reevaluate.cue c = s.cue c := by
  rw [State.reevaluate_eq]; rfl

@[simp] theorem State.reevaluate_route (s : State) (r : RouteId) : s.reevaluate.route r = s.route r := by
  rw [State.reevaluate_eq]; rfl

@[simp] theorem State.reevaluate_management (s : State) : s.reevaluate.management = s.management := by
  rw [State.reevaluate_eq]

@[simp] theorem State.reevaluate_batch (s : State) : s.reevaluate.batch = s.batch := by
  rw [State.reevaluate_eq]

/-- A plan names a template exactly when one of its slots does (R86). -/
theorem planNames_iff (p : Plan) (t : BitVec 2) :
    planNames p t = true ↔ ∃ k : Fin 6, p[k.val].length ≠ 0 ∧ p[k.val].template = t
      ∧ p[k.val].rule ∈ [SlotRule.cyclic, .eventOrCyclic, .head, .tail, .tailOrEvent] := by
  unfold planNames
  rw [plan_any]
  refine exists_congr fun k => ?_
  cases h : p[k.val].rule <;> simp [SlotRule.namesTemplate]

/-- The routes that the controller waits for (R109). -/
theorem State.counts_iff (s : State) (id : RouteId) : s.counts (s.route id) = true ↔ s.Counted id := by
  simp [State.counts, State.Counted, State.running, planNames_iff, and_assoc]

/-- A test holds of every counted route (R112). -/
theorem State.allCounted_iff (s : State) (test : Route → Bool) :
    s.allCounted test = true ↔ ∀ id, s.Counted id → test (s.route id) = true := by
  unfold State.allCounted
  rw [s.routes_all (fun x => !s.counts x || test x)]
  refine forall_congr' fun id => ?_
  rw [← s.counts_iff]
  cases s.counts (s.route id) <;> simp

/-! ### Sending -/

/-- Starting a frame changes the link's port alone (R98, R131). -/
theorem State.send_eq (s : State) (l : LinkId) (summary kind : Byte) (address : Bool) (tag : Word) (payload : List Byte) :
    s.send l summary kind address tag payload =
      s.setPort l ((s.port l).sending s.now summary kind address tag payload) := by
  cases address <;> rfl

/-- Sending a record takes it from its queue (R76, R93). -/
theorem State.sendRecord_eq (s : State) (l : LinkId) (summary : Byte) (r : QueueRecord) :
    s.sendRecord l summary r =
      s.setPort l ((s.port l).sendingRecord s.now summary s.batch.currentTag r) := by
  cases r with
  | cueEvent e =>
    have h : natBytes e.route.val = [BitVec.ofNat 8 (e.route.val / 256), BitVec.ofNat 8 e.route.val] := by
      have hlt := e.route.isLt
      simp only [natBytes, wordBytes, Word.hi, Word.lo, List.cons.injEq, and_true]
      constructor
      · apply BitVec.eq_of_toNat_eq
        simp [BitVec.extractLsb'_toNat, Nat.shiftRight_eq_div_pow]
        omega
      · apply BitVec.eq_of_toNat_eq
        simp [BitVec.extractLsb'_toNat]
    simp only [State.sendRecord, State.send_eq, CueEvent.payload, h, wordBytes]
    simp [State.modPort, Port.sendingRecord, kindEvent]
  | reply m =>
    simp only [State.sendRecord, State.send_eq, Reply.payload]
    simp [State.modPort, Port.sendingRecord, kindReply]

/-! ### Requests -/

/-- The state in which Link D has taken a frame in sequence, before anything else. -/
def State.tookFrame (s : State) (seq : Byte) : State := { s with ports := { s.ports with d := s.ports.d.took seq } }

/-- On a RUNNING link a frame in sequence is handed on at once (R129). -/
theorem State.frameArrives_inSequence (s : State) (l : LinkId) (seq : Byte) (w : State → State)
    (h : s.inSequence l seq) : s.frameArrives l seq w = w (s.setPort l ((s.port l).took seq)) := by
  obtain ⟨hr, hq⟩ := h
  have hg : ∀ p : Port, p.receiveSeq = (s.port l).receiveSeq → p.gap seq = false := by
    intro p hp
    unfold Port.gap
    rw [hp]
    cases hs : (s.port l).receiveSeq with
    | none => rfl
    | some q => simp [hq q hs]
  have hne : (s.port l).state ≠ .off := by simp [hr]
  simp [State.frameArrives, State.symbolArrives, hr, State.takeSequence, State.modPort, hg, symbolIsValid, Port.took]

/-- The same on Link D, with the port's place written out. -/
theorem State.frameArrives_ready (s : State) (seq : Byte) (w : State → State) (h : s.inSequence .d seq) :
    s.frameArrives .d seq w = w (s.tookFrame seq) := s.frameArrives_inSequence .d seq w h

/-- A request that finds room and is not guarded goes to its own work, with the reset arm acted on and the buffer
discarded unless it keeps it (R137). -/
theorem State.takeRequest_plain (s : State) (t : RequestTraits) (tag code : Byte) (w : State → State)
    (hroom : (s.port .d).queue.length < 16) (hg : t.guarded = false) :
    s.takeRequest t tag code w =
      w (if t.keepsPartial then s.actOnResetArm t else (s.actOnResetArm t).discardPartial) := by
  have : ¬ 16 ≤ (s.port .d).queue.length := by omega
  simp [State.takeRequest, State.level, Config.queueCapacity, this, hg]

/-- Emptying the partial-record buffer, as one update (R142). -/
theorem State.discardPartial_eq (s : State) :
    s.discardPartial =
      { s with management := { s.management with partialRecord := [] }, flags := s.flags.discarding s.management } := by
  unfold State.discardPartial GlobalFlags.discarding
  split
  · next h =>
    have : s.management = { s.management with partialRecord := [] } := by rw [← h]
    rw [← this]
    simp [h]
  · next h => simp [State.modManagement, State.modFlags, h]

/-- A request, other than ARM, PUT and RESET_ARM, that finds room: its own work on the cleared state (R137, R142,
R151). -/
theorem State.takeRequest_cleared (s : State) (tag code : Byte) (w : State → State) (t : RequestTraits)
    (hroom : (s.port .d).queue.length < 16) (hg : t.guarded = false) (hk : t.keepsPartial = false)
    (hr : t.setsResetArm = false) :
    s.takeRequest t tag code w =
      w { s with management := s.management.cleared, flags := s.flags.discarding s.management } := by
  rw [s.takeRequest_plain t tag code w hroom hg, hk]
  simp [State.discardPartial_eq, State.actOnResetArm, State.modManagement, hr, Management.cleared,
    GlobalFlags.discarding]

end Sys2Proof.Machine
end

