-- ==== Sys2Proof/Laws/Engine.lean ====
section
/-! SUPPORT. What the scheduler and the route engine can touch, said once: everything that a slot open can change, and
the frames of the operations built on it. -/

namespace Sys2Proof.Machine

/-! ### What a slot open can change -/

/-- `t` is `s` after work of link `l`'s scheduler: that link's scheduler fields, line, queue, transmit sequence and flags,
the route states but for the armed flags, CLIPPED, the last clipped route id and the freeze controller may differ, and
nothing else (R59, R91 to R99, R112). -/
structure State.SlotEffect (l : LinkId) (s t : State) : Prop where
  eq : t = { s with
    ports := s.ports.set l (t.port l), routes := t.routes, flags := { s.flags with clipped := t.flags.clipped }
    lastClipped := t.lastClipped, freeze := t.freeze }
  state : (t.port l).state = (s.port l).state
  receiveSeq : (t.port l).receiveSeq = (s.port l).receiveSeq
  startTimer : (t.port l).startTimer = (s.port l).startTimer
  silence : (t.port l).silence = (s.port l).silence
  idleRun : (t.port l).idleRun = (s.port l).idleRun
  fill : (t.port l).fill = (s.port l).fill
  heard : (t.port l).heard = (s.port l).heard
  settings : (t.port l).settings = (s.port l).settings
  plan : (t.port l).plan = (s.port l).plan
  templates : (t.port l).templates = (s.port l).templates
  record : ∀ id, (t.route id).record = (s.route id).record
  armed : ∀ id, (t.route id).armed = (s.route id).armed

theorem State.SlotEffect.rfl (l : LinkId) (s : State) : s.SlotEffect l s := by
  constructor <;> simp [State.port]

theorem State.SlotEffect.trans {l : LinkId} {s t u : State} (h : s.SlotEffect l t) (k : t.SlotEffect l u) :
    s.SlotEffect l u where
  eq := by
    have hk := k.eq
    have hh := h.eq
    generalize u.port l = p at *
    generalize u.routes = r, u.flags.clipped = c, u.lastClipped = n, u.freeze = f at *
    generalize t.port l = p', t.flags.clipped = c' at *
    subst hk
    rw [hh]
    simp
  state := k.state.trans h.state
  receiveSeq := k.receiveSeq.trans h.receiveSeq
  startTimer := k.startTimer.trans h.startTimer
  silence := k.silence.trans h.silence
  idleRun := k.idleRun.trans h.idleRun
  fill := k.fill.trans h.fill
  heard := k.heard.trans h.heard
  settings := k.settings.trans h.settings
  plan := k.plan.trans h.plan
  templates := k.templates.trans h.templates
  record id := (k.record id).trans (h.record id)
  armed id := (k.armed id).trans (h.armed id)

/-- Work on the link's own port that leaves what a slot open leaves. -/
theorem State.SlotEffect.ofPort (s : State) (l : LinkId) (p : Port)
    (h : p = { s.port l with
      transmitSeq := p.transmitSeq, flags := p.flags, walk := p.walk, slotTimer := p.slotTimer
      eventCount := p.eventCount, snapshot := p.snapshot, line := p.line, queue := p.queue }) :
    s.SlotEffect l (s.setPort l p) := by
  constructor <;> (try rw [State.setPort_port_same]) <;> (try (rw [h]; done)) <;> intros <;> rfl

/-- Computing a FIELD route (R53, R56, R58, R59): its held value, peak register and marks, and the clip record. -/
theorem State.computeField_effect (s : State) (l : LinkId) (id : RouteId) : s.SlotEffect l (s.computeField id) := by
  have key : ∀ x : Route, x.record = (s.route id).record → x.armed = (s.route id).armed → ∀ b,
      s.SlotEffect l ((s.setRoute id x).noteClip id b) := by
    intro x hr ha b
    rw [State.noteClip_eq]
    refine ⟨?_, rfl, rfl, rfl, rfl, rfl, rfl, rfl, rfl, rfl, rfl, fun k => ?_, fun k => ?_⟩
    · simp [State.setRoute, State.port]
    · show ((s.setRoute id x).route k).record = _
      rw [State.setRoute_route]
      split
      · next h => subst h; assumption
      · rfl
    · show ((s.setRoute id x).route k).armed = _
      rw [State.setRoute_route]
      split
      · next h => subst h; assumption
      · rfl
  unfold State.computeField
  dsimp only
  split
  · exact key ((s.route id).afterSwitch _ _) rfl rfl false
  · exact key ((s.route id).afterAnalog _ _) rfl rfl _

/-- Building fields of a template computes routes and nothing else (R59). -/
theorem State.buildFields_effect (l : LinkId) (t : BitVec 2) (ps : List Nat) :
    ∀ s : State, s.SlotEffect l (s.buildFields l t ps).1 := by
  induction ps with
  | nil => exact State.SlotEffect.rfl l
  | cons i rest ih =>
    intro s
    unfold State.buildFields
    dsimp only
    split
    · exact ih s
    · exact (s.computeField_effect l _).trans (ih _)

theorem State.buildTemplate_effect (s : State) (l : LinkId) (t : BitVec 2) :
    s.SlotEffect l (s.buildTemplate l t).1 := State.buildFields_effect l t _ s

theorem State.reevaluate_effect (s : State) (l : LinkId) : s.SlotEffect l s.reevaluate := by
  rw [State.reevaluate_eq]
  refine ⟨?_, rfl, rfl, rfl, rfl, rfl, rfl, rfl, rfl, rfl, rfl, fun _ => rfl, fun _ => rfl⟩
  simp [State.port]

theorem State.send_effect (s : State) (l : LinkId) (summary kind : Byte) (address : Bool) (tag : Word)
    (payload : List Byte) : s.SlotEffect l (s.send l summary kind address tag payload) :=
  .ofPort s l _ rfl

theorem State.setEventCount_effect (s : State) (l : LinkId) (n : Nat) : s.SlotEffect l (s.setEventCount l n) :=
  .ofPort s l _ rfl

theorem State.sendRecord_effect (s : State) (l : LinkId) (summary : Byte) (r : QueueRecord) :
    s.SlotEffect l (s.sendRecord l summary r) := by
  rw [State.sendRecord_eq]
  cases r <;> exact .ofPort s l _ rfl

theorem State.sendCyclic_effect (s : State) (l : LinkId) (summary : Byte) (t : BitVec 2) :
    s.SlotEffect l (s.sendCyclic l summary t) :=
  (((s.buildTemplate_effect l t).trans (State.setEventCount_effect _ l 0)).trans (State.send_effect ..)).trans
    (State.reevaluate_effect _ l)

theorem State.sendHead_effect (s : State) (l : LinkId) (summary : Byte) (t : BitVec 2) :
    s.SlotEffect l (s.sendHead l summary t) :=
  ((((s.buildTemplate_effect l t).trans (State.setEventCount_effect _ l 0)).trans (.ofPort _ l _ rfl)).trans
    (State.send_effect ..)).trans (State.reevaluate_effect _ l)

theorem State.sendTail_effect (s : State) (l : LinkId) (summary : Byte) (k : Snapshot) :
    s.SlotEffect l (s.sendTail l summary k) := (s.setEventCount_effect l 0).trans (State.send_effect ..)

theorem State.sendEventOr_effect (s u : State) (l : LinkId) (summary : Byte) (h : s.SlotEffect l u) :
    s.SlotEffect l (s.sendEventOr l summary u) := by
  unfold State.sendEventOr
  split
  · exact s.sendRecord_effect l summary _
  · exact h

theorem State.applyRule_effect (s : State) (l : LinkId) (slot : Slot) (snap : Option Snapshot) :
    s.SlotEffect l (s.applyRule l slot snap) := by
  unfold State.applyRule
  split
  · exact s.sendCyclic_effect l _ _
  · exact s.sendEventOr_effect _ l _ (s.sendCyclic_effect l _ _)
  · exact s.sendEventOr_effect _ l _ (.rfl l s)
  · exact s.sendHead_effect l _ _
  · split
    · exact s.sendTail_effect l _ _
    · exact .ofPort s l _ rfl
  · split
    · exact s.sendTail_effect l _ _
    · exact s.sendEventOr_effect _ l _ (.rfl l s)
  · exact .rfl l s

/-- Everything a slot open can change (R91 to R99). -/
theorem State.openSlot_effect (s : State) (l : LinkId) (k : Fin 6) : s.SlotEffect l (s.openSlot l k) := by
  unfold State.openSlot
  dsimp only
  split
  · exact (State.SlotEffect.ofPort s l _ rfl).trans (.ofPort _ l _ rfl)
  · exact (State.SlotEffect.ofPort s l _ rfl).trans (State.applyRule_effect ..)

/-- Everything the opening of the next slot, or the stop of the walk, can change (R89, R90). -/
theorem State.openNext_effect (s : State) (l : LinkId) : s.SlotEffect l (s.openNext l) := by
  unfold State.openNext
  split
  · exact s.openSlot_effect l _
  · exact .ofPort s l _ rfl

theorem State.restartWalk_effect (s : State) (l : LinkId) : s.SlotEffect l (s.restartWalk l) := by
  unfold State.restartWalk
  dsimp only
  split
  · exact s.openNext_effect l
  · exact .rfl l s

/-- The other links stand through the work of one link's scheduler. -/
theorem State.SlotEffect.port_ne {l k : LinkId} {s t : State} (h : s.SlotEffect l t) (hk : k ≠ l) :
    t.port k = s.port k := by
  rw [h.eq]
  exact PerLink.get_set_ne _ _ hk

theorem State.SlotEffect.cue {l : LinkId} {s t : State} (h : s.SlotEffect l t) (c : CueId) : t.cue c = s.cue c := by
  rw [h.eq]; rfl

theorem State.SlotEffect.batch {l : LinkId} {s t : State} (h : s.SlotEffect l t) : t.batch = s.batch := by rw [h.eq]

theorem State.SlotEffect.management {l : LinkId} {s t : State} (h : s.SlotEffect l t) :
    t.management = s.management := by rw [h.eq]

theorem State.SlotEffect.pending {l : LinkId} {s t : State} (h : s.SlotEffect l t) : t.pending = s.pending := by
  rw [h.eq]

theorem State.SlotEffect.globals {l : LinkId} {s t : State} (h : s.SlotEffect l t) : t.globals = s.globals := by
  rw [h.eq]

theorem State.SlotEffect.now {l : LinkId} {s t : State} (h : s.SlotEffect l t) : t.now = s.now := by rw [h.eq]

theorem State.SlotEffect.nextTick {l : LinkId} {s t : State} (h : s.SlotEffect l t) : t.nextTick = s.nextTick := by
  rw [h.eq]

theorem State.SlotEffect.sourceClass {l : LinkId} {s t : State} (h : s.SlotEffect l t) (r : RouteRecord) :
    t.sourceClass r = s.sourceClass r := by simp [State.sourceClass, h.cue]

end Sys2Proof.Machine
end

