-- ==== Sys2Proof/Laws/Notices.lean ====
section
/-! SUPPORT. What a commit can touch: the entries it writes, and everything that its notice can change in the route
engine and the event queues. -/

namespace Sys2Proof.Machine

/-! ### What a commit notice can change -/

/-- `t` is `s` after the route engine has taken notices: queues and EVENT_DROP of the links, peak registers and armed
flags of the routes, CLIPPED and the last clipped route id may differ, and nothing else (R39, R57, R66 to R73). -/
structure State.NoticeEffect (s t : State) : Prop where
  eq : t = { s with
    routes := t.routes, ports := t.ports, flags := { s.flags with clipped := t.flags.clipped }
    lastClipped := t.lastClipped }
  port : ∀ l, t.port l = { s.port l with
    queue := (t.port l).queue, flags := { (s.port l).flags with eventDrop := (t.port l).flags.eventDrop } }
  route : ∀ id, t.route id = { s.route id with peak := (t.route id).peak, armed := (t.route id).armed }

theorem State.NoticeEffect.rfl (s : State) : s.NoticeEffect s := ⟨by rfl, fun _ => by rfl, fun _ => by rfl⟩

theorem State.NoticeEffect.trans {s t u : State} (h : s.NoticeEffect t) (k : t.NoticeEffect u) : s.NoticeEffect u where
  eq := by
    have hk := k.eq
    have hh := h.eq
    generalize u.routes = r, u.flags.clipped = c, u.lastClipped = n, u.ports = p at *
    generalize t.ports = p', t.flags.clipped = c', t.routes = r', t.lastClipped = n' at *
    subst hk
    rw [hh]
  port l := by
    have hk := k.port l
    have hh := h.port l
    generalize (u.port l).queue = q, (u.port l).flags.eventDrop = e at *
    generalize (t.port l).queue = q', (t.port l).flags.eventDrop = e' at *
    rw [hk, hh]
  route id := by
    have hk := k.route id
    have hh := h.route id
    generalize (u.route id).peak = p, (u.route id).armed = a at *
    generalize (t.route id).peak = p', (t.route id).armed = a' at *
    rw [hk, hh]

theorem State.noteClip_effect (s : State) (id : RouteId) (b : Bool) : s.NoticeEffect (s.noteClip id b) := by
  rw [State.noteClip_eq]
  exact ⟨by rfl, fun _ => by rfl, fun _ => by rfl⟩

theorem State.setArmed_effect (s : State) (id : RouteId) (a : Bool) :
    s.NoticeEffect (s.setRoute id { s.route id with armed := a }) := by
  refine ⟨by rfl, fun _ => by rfl, fun k => ?_⟩
  rw [State.setRoute_route]
  split
  · next h => subst h; rfl
  · rfl

theorem State.offerCueEvent_effect (s : State) (l : LinkId) (e : CueEvent) : s.NoticeEffect (s.offerCueEvent l e) := by
  have key : ∀ q b, s.NoticeEffect
      (s.setPort l { s.port l with queue := q, flags := { (s.port l).flags with eventDrop := b } }) := by
    intro q b
    refine ⟨by rfl, fun k => ?_, fun _ => by rfl⟩
    rw [State.setPort_port]
    split
    · next h => subst h; rfl
    · rfl
  unfold State.offerCueEvent
  split
  · exact key _ (s.port l).flags.eventDrop
  · split
    · exact key _ (s.port l).flags.eventDrop
    · exact key (s.port l).queue true

theorem State.testThreshold_effect (s : State) (id : RouteId) (y4 : Int) : s.NoticeEffect (s.testThreshold id y4) := by
  unfold State.testThreshold
  dsimp only
  split
  · split
    · exact (s.setArmed_effect id false).trans (State.offerCueEvent_effect _ _ _)
    · exact .rfl s
  · split
    · exact s.setArmed_effect id true
    · exact .rfl s

/-- Everything one evaluation of an EVENT route can change (R66 to R71). -/
theorem State.evaluate_effect (s : State) (id : RouteId) : s.NoticeEffect (s.evaluate id) := by
  unfold State.evaluate
  split
  · split
    · unfold State.evaluateSwitch
      dsimp only
      split
      · exact .rfl s
      · exact s.offerCueEvent_effect _ _
    · exact (s.noteClip_effect id _).trans (State.testThreshold_effect _ _ _)
  · exact .rfl s

theorem State.evaluateAll_effect (ids : List RouteId) : ∀ s : State, s.NoticeEffect (ids.foldl State.evaluate s) := by
  induction ids with
  | nil => exact State.NoticeEffect.rfl
  | cons id rest ih => exact fun s => (s.evaluate_effect id).trans (ih _)

theorem State.updatePeaks_effect (s : State) (cues : List CueId) : s.NoticeEffect (s.updatePeaks cues) := by
  refine ⟨by rfl, fun _ => by rfl, fun id => ?_⟩
  rw [State.updatePeaks_route]
  unfold State.peakUpdated
  split <;> rfl

/-- Everything a commit notice can change (R39). -/
theorem State.takeNotice_effect (s : State) (cues : List CueId) : s.NoticeEffect (s.takeNotice cues) :=
  (s.updatePeaks_effect cues).trans (State.evaluateAll_effect _ _)

theorem State.NoticeEffect.cue {s t : State} (h : s.NoticeEffect t) (c : CueId) : t.cue c = s.cue c := by
  rw [h.eq]; rfl

theorem State.NoticeEffect.batch {s t : State} (h : s.NoticeEffect t) : t.batch = s.batch := by rw [h.eq]

theorem State.NoticeEffect.management {s t : State} (h : s.NoticeEffect t) : t.management = s.management := by rw [h.eq]

theorem State.NoticeEffect.pending {s t : State} (h : s.NoticeEffect t) : t.pending = s.pending := by rw [h.eq]

theorem State.NoticeEffect.freeze {s t : State} (h : s.NoticeEffect t) : t.freeze = s.freeze := by rw [h.eq]

theorem State.NoticeEffect.portState {s t : State} (h : s.NoticeEffect t) (l : LinkId) :
    (t.port l).state = (s.port l).state := by rw [h.port l]

theorem State.NoticeEffect.record {s t : State} (h : s.NoticeEffect t) (id : RouteId) :
    (t.route id).record = (s.route id).record := by rw [h.route id]

theorem State.NoticeEffect.held {s t : State} (h : s.NoticeEffect t) (id : RouteId) :
    (t.route id).held = (s.route id).held := by rw [h.route id]

/-! ### The entries of a commit -/

/-- The value that a list of writes brings to a cue, the first that names it. -/
def writtenTo (writes : List (CueId × Word)) (c : CueId) : Option Word :=
  (writes.find? fun w => w.1 = c).map Prod.snd

/-- A commit's entries (R4): each cue of a list without repeats is committed with its value, every other stands. -/
theorem State.writeCommit_cue (tag : Word) (writes : List (CueId × Word)) (c : CueId)
    (h : (writes.map Prod.fst).Nodup) : ∀ s : State, (s.writeCommit tag writes).cue c =
      match writtenTo writes c with
      | some v => (s.cue c).committed v tag
      | none => s.cue c := by
  induction writes with
  | nil => intro s; rfl
  | cons w rest ih =>
    intro s
    obtain ⟨hw, hr⟩ := List.nodup_cons.mp h
    show ((s.modCue w.1 fun e => e.commit w.2 tag).writeCommit tag rest).cue c = _
    rw [ih hr, State.modCue_cue]
    by_cases hc : w.1 = c
    · subst hc
      have : writtenTo rest w.1 = none := by
        simp only [writtenTo, Option.map_eq_none_iff, List.find?_eq_none, decide_eq_true_eq]
        intro x hx e
        exact hw (e ▸ List.mem_map_of_mem hx)
      rw [this]
      simp [writtenTo, CueEntry.commit, CueEntry.committed]
    · have : ¬ c = w.1 := fun e => hc e.symm
      simp [writtenTo, hc, this]

/-- A commit writes the cue table as `writeCommit_cue` says and nothing else of the batch, the management unit, the
freeze controller and the link states (R4, R5, R39). -/
theorem State.commit_cue (s : State) (tag : Word) (writes : List (CueId × Word)) (c : CueId)
    (h : (writes.map Prod.fst).Nodup) : (s.commit tag writes).cue c =
      match writtenTo writes c with
      | some v => (s.cue c).committed v tag
      | none => s.cue c := by
  unfold State.commit
  split
  · next he =>
    rw [List.isEmpty_iff] at he
    subst he
    rfl
  · rw [(State.takeNotice_effect _ _).cue, State.writeCommit_cue _ _ _ h]

theorem State.writeCommit_eq (tag : Word) (writes : List (CueId × Word)) :
    ∀ s : State, s.writeCommit tag writes = { s with cues := (s.writeCommit tag writes).cues } := by
  induction writes with
  | nil => intro s; rfl
  | cons w rest ih =>
    intro s
    show (s.modCue w.1 _).writeCommit tag rest = _
    rw [ih]
    rfl

/-- What a commit leaves, but for the cue table, is what its notice leaves. -/
theorem State.commit_effect (s : State) (tag : Word) (writes : List (CueId × Word)) :
    ({ s with cues := (s.commit tag writes).cues }).NoticeEffect (s.commit tag writes) := by
  unfold State.commit
  split
  · exact .rfl s
  · have h := (s.writeCommit tag writes).takeNotice_effect (writes.map Prod.fst)
    have hc : ((s.writeCommit tag writes).takeNotice (writes.map Prod.fst)).cues = (s.writeCommit tag writes).cues := by
      rw [h.eq]
    rw [hc]
    rw [← State.writeCommit_eq tag writes s]
    exact h

/-- Pending values (R6): each cue of a list without repeats takes its value as pending, every other entry stands. -/
theorem State.makePending_cue (writes : List (CueId × Word)) (c : CueId) (h : (writes.map Prod.fst).Nodup) :
    ∀ s : State, (s.makePending writes).cue c =
      match writtenTo writes c with
      | some v => { s.cue c with pending := some v }
      | none => s.cue c := by
  induction writes with
  | nil => intro s; rfl
  | cons w rest ih =>
    intro s
    obtain ⟨hw, hr⟩ := List.nodup_cons.mp h
    show ((s.modCue w.1 fun e => { e with pending := some w.2 }).makePending rest).cue c = _
    rw [ih hr, State.modCue_cue]
    by_cases hc : w.1 = c
    · subst hc
      have : writtenTo rest w.1 = none := by
        simp only [writtenTo, Option.map_eq_none_iff, List.find?_eq_none, decide_eq_true_eq]
        intro x hx e
        exact hw (e ▸ List.mem_map_of_mem hx)
      rw [this]
      simp [writtenTo]
    · have : ¬ c = w.1 := fun e => hc e.symm
      simp [writtenTo, hc, this]

theorem State.makePending_eq (writes : List (CueId × Word)) :
    ∀ s : State, s.makePending writes = { s with cues := (s.makePending writes).cues } := by
  induction writes with
  | nil => intro s; rfl
  | cons w rest ih =>
    intro s
    show (s.modCue w.1 _).makePending rest = _
    rw [ih]
    rfl

/-! ### The accepted cues of a payload -/

theorem lastWins_nodup (ws : List (CueId × Word)) : ((lastWins ws).map Prod.fst).Nodup := by
  induction ws with
  | nil => exact List.nodup_nil
  | cons w rest ih =>
    unfold lastWins
    split
    · exact ih
    · next h =>
      rw [List.map_cons, List.nodup_cons]
      refine ⟨fun hm => h ?_, ih⟩
      have sub : ∀ x (l : List (CueId × Word)), x ∈ lastWins l → x ∈ l := by
        intro x l
        induction l with
        | nil => exact id
        | cons y r ihr =>
          unfold lastWins
          split
          · exact fun hx => List.mem_cons_of_mem _ (ihr hx)
          · intro hx
            rcases List.mem_cons.mp hx with rfl | hx
            · exact List.mem_cons_self
            · exact List.mem_cons_of_mem _ (ihr hx)
      obtain ⟨x, hx, e⟩ := List.mem_map.mp hm
      simpa using ⟨x.2, by rw [← e]; exact sub x rest hx⟩

/-- Of the pairs that name a cue the last one's value is written (R24). -/
theorem writtenTo_lastWins (ws : List (CueId × Word)) (c : CueId) :
    writtenTo (lastWins ws) c = (ws.reverse.find? fun w => w.1 = c).map Prod.snd := by
  induction ws with
  | nil => rfl
  | cons w rest ih =>
    rw [List.reverse_cons, List.find?_append]
    unfold lastWins
    split
    · next h =>
      rw [ih]
      by_cases hc : w.1 = c
      · have hm : c ∈ rest.map Prod.fst := by subst hc; simpa using h
        obtain ⟨x, hx, e⟩ := List.mem_map.mp hm
        have : (rest.reverse.find? fun w => decide (w.1 = c)).isSome := by
          rw [List.find?_isSome]
          exact ⟨x, by simpa using hx, by simpa using e⟩
        obtain ⟨y, hy⟩ := Option.isSome_iff_exists.mp this
        simp [hy]
      · simp [hc]
    · next h =>
      have hr : ∀ x ∈ rest, x.1 ≠ w.1 := by
        intro x hx e
        exact h (by simpa using ⟨x.2, by rw [← e]; exact hx⟩)
      by_cases hc : w.1 = c
      · subst hc
        have : rest.reverse.find? (fun x => decide (x.1 = w.1)) = none := by
          rw [List.find?_eq_none]
          intro x hx
          simpa using hr x (by simpa using hx)
        simp [writtenTo, this]
      · have : writtenTo (w :: lastWins rest) c = writtenTo (lastWins rest) c := by simp [writtenTo, hc]
        rw [this, ih]
        simp [hc]

/-- The accepted cues of an UPDATE payload with their values (R23, R24). -/
theorem State.writtenTo_acceptedCues (s : State) (l : LinkId) (payload : List Byte) (c : CueId) :
    writtenTo (s.acceptedCues l payload) c = s.broughtBy l payload c := by
  unfold State.acceptedCues State.broughtBy
  rw [writtenTo_lastWins, ← List.filter_reverse, List.find?_filter]
  by_cases h : (s.cue c).config.owner = some l
  · rw [if_pos h]
    congr 2
    funext w
    by_cases hw : w.1 = c
    · subst hw; simp [State.owns, h]
    · simp [hw]
  · rw [if_neg h, Option.map_eq_none_iff, List.find?_eq_none]
    intro w _
    by_cases hw : w.1 = c
    · subst hw; simp [State.owns, h]
    · simp [hw]

theorem State.acceptedCues_nodup (s : State) (l : LinkId) (payload : List Byte) :
    ((s.acceptedCues l payload).map Prod.fst).Nodup := lastWins_nodup _

end Sys2Proof.Machine
end

