-- ==== Sys2Proof/Laws/Requests.lean ====
section
/-! SUPPORT. What a record write, the restart of walks, a change of link state and a tear can touch, said once for
each. -/

namespace Sys2Proof.Machine

/-- A record write can change the cue table, the routes, the links, the GLOBAL record and the freeze controller, and
nothing else (R143). -/
theorem State.writeRecord_eq {s u : State} {t : TableId} {i : Nat} {bs : List Byte} (h : s.writeRecord t i bs = .ok u) :
    u = { s with cues := u.cues, routes := u.routes, ports := u.ports, globals := u.globals, freeze := u.freeze } := by
  have re : ∀ x : State, x.reevaluate = { x with freeze := x.reevaluate.freeze } := State.reevaluate_eq
  unfold State.writeRecord at h
  split at h
  · split at h
    · unfold State.writeCue at h
      split at h
      · cases h
      · split at h
        · cases h
          unfold State.acceptCue
          dsimp only
          split
          · rfl
          · rw [re]; rfl
        · cases h
    · unfold State.writeRoute at h
      split at h
      · cases h
      · split at h
        · cases h
        · split at h
          · cases h
          · cases h; rw [re]; rfl
    · unfold State.writeTemplate at h
      split at h
      · cases h
      · cases h; rw [re]; rfl
    · unfold State.writePlan at h
      split at h
      · cases h
      · split at h
        · cases h
        · cases h; rw [re]; rfl
    · unfold State.writeLink at h
      split at h
      · cases h
      · split at h
        · cases h
        · cases h; rfl
    · unfold State.writeGlobal at h
      split at h
      · cases h; rfl
      · cases h
  · cases h

theorem State.writeRecord_management {s u : State} {t : TableId} {i : Nat} {bs : List Byte}
    (h : s.writeRecord t i bs = .ok u) : u.management = s.management := by rw [State.writeRecord_eq h]

theorem State.writeRecord_pending {s u : State} {t : TableId} {i : Nat} {bs : List Byte}
    (h : s.writeRecord t i bs = .ok u) : u.pending = s.pending := by rw [State.writeRecord_eq h]

theorem State.writeRecord_batch {s u : State} {t : TableId} {i : Nat} {bs : List Byte}
    (h : s.writeRecord t i bs = .ok u) : u.batch = s.batch := by rw [State.writeRecord_eq h]

/-- The restart of walks (R88) can change the links, the route states, CLIPPED, the last clipped route id and the freeze
controller, and nothing else. -/
theorem State.restartWalks_eq (s : State) : s.restartWalks = { s with
    ports := s.restartWalks.ports, routes := s.restartWalks.routes
    flags := { s.flags with clipped := s.restartWalks.flags.clipped }
    lastClipped := s.restartWalks.lastClipped, freeze := s.restartWalks.freeze } := by
  have one : ∀ (l : LinkId) (x y : State), (∃ p r c n f, x = { y with
      ports := p, routes := r, flags := { y.flags with clipped := c }, lastClipped := n, freeze := f }) →
      ∃ p r c n f, x.restartWalk l = { y with
        ports := p, routes := r, flags := { y.flags with clipped := c }, lastClipped := n, freeze := f } := by
    rintro l x y ⟨p, r, c, n, f, rfl⟩
    exact ⟨_, _, _, _, _, (State.restartWalk_effect _ l).eq⟩
  obtain ⟨p, r, c, n, f, h⟩ :=
    one .c _ s (one .a _ s (one .v _ s (one .d s s ⟨_, _, s.flags.clipped, _, _, rfl⟩)))
  have h' : s.restartWalks = { s with
      ports := p, routes := r, flags := { s.flags with clipped := c }, lastClipped := n, freeze := f } := h
  rw [h']

/-- Everything a tear can change: pending values, the batch state and timer, STEP_TORN (R33). -/
theorem State.tearBatch_eq (s : State) : s.tearBatch = { s with
    cues := s.tearBatch.cues
    batch := { s.batch with isOpen := s.tearBatch.batch.isOpen, timer := s.tearBatch.batch.timer }
    flags := { s.flags with stepTorn := s.tearBatch.flags.stepTorn } } := by
  unfold State.tearBatch
  split <;> rfl

theorem State.tearBatch_cue (s : State) (c : CueId) :
    s.tearBatch.cue c = if s.batch.isOpen then { s.cue c with pending := none } else s.cue c := by
  unfold State.tearBatch
  split
  · exact s.abandonBatch_cue c
  · rfl

@[simp] theorem State.tearBatch_port (s : State) (l : LinkId) : s.tearBatch.port l = s.port l := by
  rw [State.tearBatch_eq]; rfl

@[simp] theorem State.tearBatch_route (s : State) (r : RouteId) : s.tearBatch.route r = s.route r := by
  rw [State.tearBatch_eq]; rfl

@[simp] theorem State.tearBatch_management (s : State) : s.tearBatch.management = s.management := by
  rw [State.tearBatch_eq]

@[simp] theorem State.tearBatch_freeze (s : State) : s.tearBatch.freeze = s.freeze := by rw [State.tearBatch_eq]

@[simp] theorem State.tearBatch_pending (s : State) : s.tearBatch.pending = s.pending := by rw [State.tearBatch_eq]

/-- The ports after a link stands in another state (R123). -/
theorem State.leaveFor_port (s : State) (l k : LinkId) (st : LinkState) :
    (s.leaveFor l st).port k =
      if k = l then (if (s.port l).state = .running then (s.port l).stopped st else { s.port l with state := st })
      else s.port k := by
  unfold State.leaveFor
  by_cases h : (s.port l).state = .running
  · have hr : s.running l = true := (s.running_iff l).mpr h
    rw [if_pos hr, State.reevaluate_port, if_pos h]
    split <;> (try rw [State.tearBatch_port]) <;> rw [State.modPort_port] <;> rfl
  · have hr : ¬ s.running l = true := fun e => h ((s.running_iff l).mp e)
    rw [if_neg hr, State.modPort_port, if_neg h]

/-- Everything but the links that a change of a link's state can change: pending values, the batch and STEP_TORN, and the
freeze controller (R33, R123). -/
theorem State.leaveFor_eq (s : State) (l : LinkId) (st : LinkState) : s.leaveFor l st = { s with
    cues := (s.leaveFor l st).cues, batch := (s.leaveFor l st).batch, ports := (s.leaveFor l st).ports
    flags := { s.flags with stepTorn := (s.leaveFor l st).flags.stepTorn }, freeze := (s.leaveFor l st).freeze } := by
  unfold State.leaveFor
  dsimp only
  split
  · rw [State.reevaluate_eq]
    split
    · rw [State.tearBatch_eq]; rfl
    · rfl
  · rfl

end Sys2Proof.Machine
end

