-- ==== Sys2Proof/Laws/Terms.lean ====
section
/-! SUPPORT. The terms of Safety.lean beside the model's own operations: the stages of a computation, the stale
count, the peak register, the fit of a slot, the slot that follows in a walk, the idle fill of a start-up. -/

namespace Sys2Proof.Machine

/-- The condition of a start-up by idle fill (R122). -/
theorem Port.filled_iff (p : Port) :
    p.filled = true ↔ p.idleRun = true ∧ p.fill = .whole ∧ p.heard = true := by
  simp [Port.filled, and_assoc]

/-- What a tick makes of the fill at a STARTING link. -/
theorem FillRun.afterTick_eq (f : FillRun) (heard : Bool) :
    f.afterTick heard = if f ≠ .absent ∧ heard = true then .whole else .absent := by
  cases f <;> cases heard <;> rfl

/-- What a symbol makes of the fill at a STARTING link. -/
theorem FillRun.afterSymbol_eq (f : FillRun) (y : LineSymbol) :
    f.afterSymbol y = if y = .idleFill then (if f = .absent then .begun else f) else .absent := by
  cases y <;> rfl

/-- Stage 1 of a route at this instant is its `selected`. -/
theorem State.selectStage_eq (s : State) (id : RouteId) :
    selectStage (s.route id).record (s.route id).peak (s.sourceA (s.route id).record).toInt
      (s.sourceB (s.route id).record).toInt = s.selected id := by
  unfold State.selected selectStage State.sourceA State.sourceB State.effective
  cases h : (s.route id).record.combine <;> cases k : (s.route id).peak <;> simp [h, k]

/-- Stages 1 to 4 of a route at this instant are its `unclamped`. -/
theorem State.stagesToBias_eq (s : State) (id : RouteId) :
    stagesToBias (s.route id).record (s.route id).peak (s.sourceA (s.route id).record).toInt
      (s.sourceB (s.route id).record).toInt = s.unclamped id := by
  unfold stagesToBias State.unclamped
  rw [State.selectStage_eq]

/-- The limited value of a FIELD route's computation is its `clamped`. -/
theorem State.limited_eq (s : State) (id : RouteId) :
    s.limited (s.route id).record (s.route id).peak = s.clamped id := by
  unfold State.limited limitedValue State.clamped clampStage
  simp only [State.stagesToBias_eq]

/-- A FIELD route of an ANALOG source clips as `Clips` says. -/
theorem State.clipsNow_iff (s : State) (id : RouteId) (h : s.sourceClass (s.route id).record = .analog) :
    s.clipsNow (s.route id).record (s.route id).peak = true ↔ s.Clips id := by
  have h' := s.limited_eq id
  unfold State.limited at h'
  unfold State.clipsNow clips State.Clips
  rw [State.stagesToBias_eq, h']
  simp [h]

/-- The stale count counts the stale cues (R14). -/
theorem State.staleCount_eq (s : State) (l : LinkId) : s.staleCount l = (s.staleCues l).length := by
  have h : s.cues.toArray.toList = (List.finRange 256).map s.cue := by
    apply List.ext_getElem
    · simp
    · intro i _ _
      simp [State.cue]
  unfold State.staleCount State.staleCues
  rw [h, List.countP_map, List.countP_eq_length_filter]
  congr 1
  apply List.filter_congr
  intro c _
  simp [CueEntry.stale, Function.comp, Bool.or_assoc]

/-- The peak register after a commit is `peakWith`. -/
theorem peakAfter_eq (x : Route) (new : Word) : peakAfter x.peak new = x.peakWith new := by
  unfold peakAfter Route.peakWith
  cases x.peak with
  | none => rfl
  | some old =>
    simp only
    split <;> split <;> first | rfl | omega

/-- The least slot length for a frame of so many bytes, as a bound on a length. -/
theorem slotMinimum_le_iff (rate : LineRate) (bytes length : Nat) :
    slotMinimum rate bytes ≤ length ↔ 20 ≤ length ∧ (bytes + 1) * rate.symbolTime + 20 ≤ 5 * length := by
  unfold slotMinimum frameTime
  simp only [Config.slotFloor, Config.slotGap, unitsPerMicrosecond]
  omega

/-- A slot is as long as its rule asks exactly when it fits. -/
theorem ruleMinimum_le_iff (l : LinkId) (rate : LineRate) (slot : Slot) (t : Template) :
    ruleMinimum l rate slot.rule t ≤ slot.length.toNat ↔ SlotFits l rate slot t := by
  unfold ruleMinimum SlotFits longestFrame eventFrameBytes
  cases l <;> cases slot.rule <;>
    simp [slotMinimum_le_iff, Config.slotFloor]

/-- The order of a walk counts upward from its first slot. -/
theorem walkOrder_eq (w : Option (Fin 6)) :
    walkOrder w = [0, 1, 2, 3, 4, 5].map fun j : Fin 6 => (match w with | none => 0 | some k => k + 1) + j := by
  cases w with
  | none => rfl
  | some k => revert k; decide

end Sys2Proof.Machine
end

