-- ==== Sys2Proof/Tests/Slice0.lean ====
section
/-! SUPPORT. Tests on small states, each expected value taken from the manual's worked cases or worked out by hand from
its rules, and for each statement of the certificate a state and operands that meet its hypotheses (`witness_…`). -/

namespace Sys2Proof.Machine.Tests

/-! The tests are checked one after another: checked side by side they would ask for a thread each. -/
set_option Elab.async false

/-! ### Well-formedness: an ill-formed term for each check -/

theorem test_wf_tick_part_twice : (Instr.millisecondTick [.cues, .cues]).wellFormed = false := by decide
theorem test_wf_sync_edge_on_d : (Instr.syncEdge .d).wellFormed = false := by decide
theorem test_wf_frame_not_its_length : (Instr.frameReceived .v [6, 0, 0, 0, 0, 0, 3, 9]).wellFormed = false := by decide
theorem test_wf_frame_too_long :
    (Instr.frameReceived .d ([6, 0, 0, 0, 0, 0, 63] ++ List.replicate 64 0)).wellFormed = false := by decide
theorem test_wf_arguments_too_long : (Instr.put 0 0 (List.replicate 61 0)).wellFormed = false := by decide
theorem test_wf_link_extra_too_long : (Instr.linkStop 0 0 1 (List.replicate 59 0)).wellFormed = false := by decide
theorem test_wf_known_code : (Instr.unknownRequest 0 0 0x11 []).wellFormed = false := by decide
theorem test_wf_known_action : (Instr.linkBadAction 0 0 1 2 []).wellFormed = false := by decide
theorem test_wf_accepts : (Instr.frameReceived .v [6, 0, 0, 0, 0, 0, 0, 9]).wellFormed = true
    ∧ (Instr.unknownRequest 0 0 0x12 []).wellFormed = true := by decide
theorem test_no_word_spells_a_command : decodeTableWord 16 0x1234 = none := rfl

/-! ### States to test on -/

/-- The state that a command leaves. -/
def after (c : Instr) (s : State) : State :=
  match exec c s with
  | .next t => t
  | .fault _ => s
  | .refused _ => s

/-- State.reset with a link RUNNING. -/
def runningOn (l : LinkId) : State := State.reset.modPort l fun p => { p with state := .running }

/-- State.reset with Link D RUNNING and the arm latch set. -/
def armed : State := (runningOn .d).modManagement fun m => { m with armLatch := true }

/-- The records in Link D's queue, as tag, code, result and count. -/
def replies (s : State) : List (Byte × Byte × Byte × Byte) :=
  (s.port .d).queue.filterMap fun
    | .reply r => some (r.tag, r.code, r.result, r.count)
    | .cueEvent _ => none

/-- A cue entry of fresh limit 20, hold limit 100 and fade step 64. -/
def entry (st : CueState) (age : Nat) (value : Word) (cls : CueClass := .analog) (owner : Option LinkId := some .d) :
    CueEntry :=
  { CueEntry.afterReset with
    state := st, age := age, value := value
    config := { CueEntry.afterReset.config with cls := cls, owner := owner } }

/-- A route record of kind FIELD on Link V, template 0, position 0, unity gain. -/
def fieldRecord : RouteRecord :=
  { RouteRecord.afterReset with kind := .field, link := .v, gain := 16384, shift := 14, slew := 100, freezeSlew := 50 }

/-- A template of one 16-bit field. -/
def oneField : Template := { Template.afterReset with fieldCount := 1, wide := 0x800000 }

/-- Link V RUNNING with one slot of a rule, its template 0 of one field filled by route 0 from cue 0. -/
def oneRoute (rule : SlotRule) : State :=
  (((runningOn .v).modPort .v fun p =>
    { (p.setTemplate 0 oneField) with plan := p.plan.set 0 { rule := rule, template := 0, length := 100 }
                                      slotTimer := some 50 }).setRoute 0
    { Route.afterReset with record := fieldRecord, settled := true }).setCue 0 (entry .live 0 1000)

/-- A state whose first command is ARM. -/
def withCommand (s : State) : State := { s with pending := [.arm 0 1 []] }

theorem frame_next (l : LinkId) (bs : List Byte) (s : State) : ∃ t, exec (.frameReceived l bs) s = .next t := ⟨_, rfl⟩

theorem slot_next (l : LinkId) (s : State) : ∃ t, exec (.slotTimerExpiry l) s = .next t := ⟨_, rfl⟩

theorem front_next (s : State) (h : s.pending = [.arm 0 1 []]) : ∃ t, step s = .next t := by
  unfold step
  rw [h]
  exact ⟨_, rfl⟩

theorem ready (s : State) (h : (s.port .d).state = .running) (hr : (s.port .d).receiveSeq = none)
    (hq : (s.port .d).queue.length < 16) (seq : Byte) : s.readyFor seq :=
  ⟨⟨h, by intro q e; rw [hr] at e; cases e⟩, hq⟩

theorem inSeq (s : State) (l : LinkId) (h : (s.port l).state = .running) (hr : (s.port l).receiveSeq = none)
    (seq : Byte) : s.inSequence l seq := ⟨h, by intro q e; rw [hr] at e; cases e⟩

/-! ### The CRC-8, frames, frame times -/

/-- R128's own example: header 01h and six zero bytes, check byte DFh. -/
theorem test_crc_first_frame : crc8 [1, 0, 0, 0, 0, 0, 0] = 0xDF := by decide +kernel

/-- The table of R100: the Link D event frame, payloads 24 and 48, at the three rates. -/
theorem test_slot_minimums :
    [16, 60, 32, 56].map (fun n => [slotMinimum .mbit12 n, slotMinimum .mbit25 n, slotMinimum .mbit50 n]) =
      [[20, 20, 20], [53, 29, 20], [31, 20, 20], [50, 27, 20]] := by decide

/-- The cases of R49: 3 and −3, 1 and −1 at shift 1. -/
theorem test_scale_halves : [3, -3, 1, -1].map (scaleStage 1 1) = [2, -2, 1, -1] := by decide

/-- The clauses of stage 2 at their boundaries: the largest product, shift 0 and 1, a half. -/
theorem witness_ScalingRoundsHalvesAwayFromZero :
    ((-65536 : Int) * (-32768)).natAbs = 2147483648 ∧ (65535 * (-32768) : Int).natAbs < 2147483648
      ∧ scaleStage 1 0 (-3) = -3 ∧ scaleStage 1 1 3 = 2 ∧ (2 * (2 ^ 1 * 2 - 3) : Int).natAbs = 2 ^ 1
      ∧ scaleStage (2 ^ 14) 14 (-65536) = -65536 := by decide

/-- The clauses of stage 3 at the ends of its band, of the narrow field at 32640 and below, and of a word as two bytes. -/
theorem witness_DeadbandAndFieldEncodings :
    [-201, -200, 0, 200, 201].map (deadbandStage 200) = [-1, 0, 0, 0, 1]
      ∧ (32640 : Word).toInt = 32640 ∧ (32639 : Word).toInt < 32640
      ∧ ((0x12 : Byte) ++ (0x34 : Byte) : Word) = 0x1234 := by decide

/-! ### The millisecond timer -/

/-- Ten cues at the boundaries of R8 to R10, before the tick that takes their ages to 19, 20, 119, 120, 120 and on. -/
def tenCues : State :=
  ([(0, entry .live 18 7), (1, entry .live 19 7), (2, entry .held 118 7), (3, entry .held 119 7 .switch),
    (4, entry .held 119 7), (5, entry .fading 130 65), (6, entry .fading 130 (-65)), (7, entry .fading 130 64),
    (8, entry .rested 65535 0), (9, entry .empty 0 3)] : List (CueId × CueEntry)).foldl (fun s x => s.setCue x.1 x.2)
    (runningOn .d)

/-- R8 to R10 at their boundaries; R7 at 65535. -/
theorem test_tick_cues :
    (List.range 10).map (fun c =>
      let e := (after (.millisecondTick []) tenCues).cue (Fin.ofNat 256 c)
      (e.state, e.value.toInt, e.age)) =
    [(.live, 7, 19), (.held, 7, 20), (.held, 7, 119), (.rested, 0, 120), (.fading, 7, 120), (.fading, 1, 131),
      (.fading, -1, 131), (.rested, 0, 131), (.rested, 0, 65535), (.empty, 3, 0)] := by decide +kernel

/-- Each clause of the tick statement has an entry of `tenCues` at its boundary. -/
theorem witness_TickAgesAndFadesEveryCue :
    (tenCues.cue 0).state = .live ∧ (tenCues.cue 0).age + 1 < 20 ∧ (tenCues.cue 1).state = .live
      ∧ (tenCues.cue 1).age + 1 = 20 ∧ (tenCues.cue 2).state = .held ∧ (tenCues.cue 2).age + 1 < 120
      ∧ (tenCues.cue 3).state = .held ∧ (tenCues.cue 3).age + 1 = 120 ∧ (tenCues.cue 3).config.cls = .switch
      ∧ (tenCues.cue 4).state = .held ∧ (tenCues.cue 4).age + 1 = 120 ∧ (tenCues.cue 4).value.toInt ≠ 0
      ∧ (tenCues.cue 5).state = .fading ∧ 0 < (tenCues.cue 5).value.toInt - 64 ∧ (tenCues.cue 6).state = .fading
      ∧ (tenCues.cue 6).value.toInt + 64 < 0 ∧ (tenCues.cue 7).state = .fading ∧ (tenCues.cue 7).value.toInt - 64 ≤ 0
      ∧ (tenCues.cue 8).state = .rested ∧ (tenCues.cue 9).state = .empty := by decide +kernel

/-- `oneRoute` with Link V STARTING, about to start up at the next tick. -/
def startingOn (l : LinkId) (n : Nat) : State :=
  (oneRoute .idle).modPort l fun p =>
    { p with state := .starting, startTimer := n, idleRun := true, fill := .whole, heard := true, slotTimer := none }

/-- A batch and a ramp with timers at a count, Link D RUNNING with its signal present. -/
def timed (f : FreezeState) (n : Nat) : State :=
  { runningOn .d with batch := { isOpen := true, openTag := 5, timer := some n, currentTag := 4 }
                      freeze := { state := f, timer := some n }
                      globals := { batchWindow := 10, freezeWindow := 10, resumeWindow := 10 } }

theorem test_tick_expires_windows :
    let t := after (.millisecondTick []) (timed .freezing 9)
    t.batch = { isOpen := false, openTag := 5, timer := none, currentTag := 4 } ∧ t.flags.stepTimeout = true
      ∧ t.freeze = { state := .frozen, timer := none } ∧ t.flags.freezeLate = true ∧ (t.port .d).silence = 1
      ∧ t.now = 5000 ∧ t.nextTick = 10000 := by decide +kernel

/-- A link in a state, at a silence count and a start timer, with its marks; fill stood at the last tick if the idle-run
mark is set. -/
def portIn (l : LinkId) (st : LinkState) (n : Nat) (mark heard : Bool) : State :=
  State.reset.modPort l fun p =>
    { p with
      state := st, silence := n, startTimer := n, idleRun := mark, fill := if mark then .whole else .absent
      heard := heard }

/-- R122 and R125 at their boundaries: start-up, the 49th and the 50th tick, the first and the second tick of silence. -/
theorem test_tick_ports :
    let port (l : LinkId) (s : State) := (after (.millisecondTick []) s).port l
    (port .v (startingOn .v 7)).walk = some 0 ∧ (port .v (startingOn .v 7)).slotTimer = some 5500
      ∧ (port .c (portIn .c .starting 48 true false)).startTimer = 49
      ∧ (port .c (portIn .c .starting 49 true false)).state = .down
      ∧ (port .c (portIn .c .halted 0 false true)).state = .halted
      ∧ (port .c (portIn .c .halted 1 false false)).flags.signalLost = true
      ∧ (port .c (portIn .c .running 1 false false)).state = .down
      ∧ (port .c (portIn .c .down 0 false true)).state = .down
      ∧ (port .d (portIn .d .down 0 false true)).state = .starting := by decide +kernel

/-- R122 after a quiet tick: fill that begins in the middle of the interval that ends at this tick does not start the link,
and stands behind the tick, so that the next one does; an interval without a symbol is no interval of fill. -/
theorem test_fill_begun_within_the_interval :
    let port (fill : FillRun) (heard : Bool) :=
      (after (.millisecondTick []) ((startingOn .v 7).modPort .v fun p => { p with fill := fill, heard := heard })).port .v
    (port .begun true).state = .starting ∧ (port .begun true).idleRun = true ∧ (port .begun true).fill = .whole
      ∧ (port .whole true).state = .running ∧ (port .whole false).state = .starting
      ∧ (port .whole false).fill = .absent ∧ (port .absent true).fill = .absent := by decide +kernel

/-- From the start of the walk, slot 0 follows when it has a length. -/
theorem slot_zero_follows (p : Port) (start : p.walk = none) (opens : p.plan[0].length ≠ 0) : FollowsInWalk p 0 := by
  exact ⟨0, by simp [start], opens, fun i h => absurd h (by omega)⟩

/-- The clauses of the tick statement for the two timers: below and at their windows, and a batch that a signal loss
meets. -/
theorem witness_TickMovesTimersAndPorts_timers :
    (timed .freezing 8).freeze = { state := .freezing, timer := some 8 }
      ∧ (timed .resuming 9).freeze = { state := .resuming, timer := some 9 }
      ∧ 8 + 1 < (timed .freezing 8).globals.freezeWindow.toNat ∧ (timed .resuming 9).globals.resumeWindow.toNat ≤ 9 + 1
      ∧ (timed .freezing 9).batch.isOpen = true ∧ (timed .freezing 9).batch.timer = some 9
      ∧ (runningOn .d).batch.isOpen = false ∧ (runningOn .d).freeze.state = .run
      ∧ ((timed .run 9).modPort .d fun p => { p with silence := 1 }).batch.timer = some 9 := by decide +kernel

/-- The clauses of the tick statement for the ports: a link that starts up, one without a slot of nonzero length, one
that loses its signal, and a tick at which no link does either. -/
theorem witness_TickMovesTimersAndPorts :
    (((startingOn .v 7).port .v).state = .starting ∧ ((startingOn .v 7).port .v).idleRun = true
        ∧ ((startingOn .v 7).port .v).fill = .whole ∧ ((startingOn .v 7).port .v).heard = true
        ∧ ((startingOn .v 7).port .v).settings.trigger = .internal
        ∧ ((portIn .c .starting 0 true true).port .c).plan[0].length = 0
        ∧ ((portIn .c .running 1 false false).port .c).silence = 1)
      ∧ FollowsInWalk { (startingOn .v 7).port .v with walk := none } 0
      ∧ ∀ l, ((timed .freezing 8).port l).state ≠ .starting ∧ ((timed .freezing 8).port l).silence = 0 :=
  ⟨by decide +kernel, slot_zero_follows _ rfl (by decide +kernel), fun l => by cases l <;> decide +kernel⟩

/-- The cue of chapter 1.10 becomes HELD at age 20, and the stale count of D rises to 1. -/
theorem test_fresh_limit_expiry :
    let s := (runningOn .d).setCue 17 (entry .live 20 300)
    ((after (.freshLimitExpiry 17) s).cue 17).state = .held ∧ s.staleCount .d = 0
      ∧ (after (.freshLimitExpiry 17) s).staleCount .d = 1 := by decide +kernel

theorem test_hold_limit_expiry :
    let s := (runningOn .d).setCue 17 (entry .held 120 300)
    ((after (.holdLimitExpiry 17) s).cue 17).state = .fading ∧ ((after (.holdLimitExpiry 17) s).cue 17).value = 300 := by
  decide +kernel

theorem witness_LimitExpiriesMoveOneCue :
    (entry .live 20 1).config.freshLimit.toNat ≤ 20 ∧ 19 < (entry .live 19 1).config.freshLimit.toNat
      ∧ (entry .held 120 1).config.freshLimit.toNat + (entry .held 120 1).config.holdLimit.toNat ≤ 120
      ∧ 119 < (entry .held 119 1).config.freshLimit.toNat + (entry .held 119 1).config.holdLimit.toNat := by decide

theorem test_step_timeout :
    (after .stepTimeout (timed .run 10)).flags.stepTimeout = true
      ∧ (after .stepTimeout (timed .run 10)).batch.isOpen = false
      ∧ (after .stepTimeout (timed .run 9)).batch.isOpen = true := by decide +kernel

theorem test_freeze_late : (after .freezeLate (timed .freezing 10)).freeze = { state := .frozen, timer := none }
    ∧ (after .freezeLate (timed .freezing 9)).freeze.state = .freezing := by decide +kernel

theorem test_resume_late : (after .resumeLate (timed .resuming 10)).freeze = { state := .run, timer := none }
    ∧ (after .resumeLate (timed .resuming 10)).flags.resumeLate = true := by decide +kernel

theorem witness_WindowExpiriesEndTheirWork :
    (timed .freezing 10).batch.isOpen = true ∧ (timed .freezing 10).batch.timer = some 10
      ∧ (timed .freezing 10).globals.batchWindow.toNat ≤ 10 ∧ (timed .freezing 10).globals.freezeWindow.toNat ≤ 10
      ∧ (timed .resuming 10).globals.resumeWindow.toNat ≤ 10 ∧ 9 < (timed .freezing 9).globals.freezeWindow.toNat
      ∧ State.reset.batch.isOpen = false ∧ State.reset.freeze.state ≠ .freezing
      ∧ State.reset.freeze.state ≠ .resuming := by decide +kernel

/-- A STARTING Link V at a start timer, with its idle-run mark; with the mark, fill stood at the last tick and came on. -/
def startingV (n : Nat) (mark : Bool) : State :=
  (oneRoute .idle).modPort .v fun p =>
    { p with
      state := .starting, startTimer := n, idleRun := mark, fill := if mark then .whole else .absent, heard := mark
      slotTimer := none }

theorem test_start_timeout :
    ((after (.startTimeout .v) (startingV 50 false)).port .v).state = .down
      ∧ ((after (.startTimeout .v) (startingV 50 false)).port .v).flags.startTimeout = true
      ∧ ((after (.startTimeout .v) (startingV 49 false)).port .v).state = .starting := by decide +kernel

theorem test_signal_return :
    ((after .signalReturnLinkD (portIn .d .down 50 true true)).port .d).state = .starting
      ∧ ((after .signalReturnLinkD (portIn .d .down 50 true true)).port .d).startTimer = 0
      ∧ ((after .signalReturnLinkD (portIn .d .down 50 true true)).port .d).idleRun = false
      ∧ ((after .signalReturnLinkD (portIn .d .down 50 true false)).port .d).state = .down := by decide +kernel

theorem witness_StartTimeoutAndSignalReturn :
    ((startingV 50 false).port .v).state = .starting ∧ 50 ≤ ((startingV 50 false).port .v).startTimer
      ∧ ((startingV 49 false).port .v).startTimer < 50
      ∧ ((portIn .d .down 50 true true).port .d).state = .down ∧ ((portIn .d .down 50 true true).port .d).heard = true
      ∧ (State.reset.port .d).state ≠ .down ∧ ((portIn .d .down 50 true false).port .d).heard = false := by decide +kernel

theorem test_idle_fill_start_up :
    ((after (.idleFillStartUp .v) (startingV 1 true)).port .v).state = .running
      ∧ ((after (.idleFillStartUp .v) (startingV 1 true)).port .v).walk = some 0
      ∧ ((after (.idleFillStartUp .v) (startingV 1 true)).port .v).slotTimer = some 500
      ∧ ((after (.idleFillStartUp .v) (startingV 1 false)).port .v).state = .starting := by decide +kernel

theorem witness_IdleFillTakesTheLinkToRunning :
    (((startingV 1 true).port .v).state = .starting ∧ ((startingV 1 true).port .v).idleRun = true
        ∧ ((startingV 1 true).port .v).fill = .whole ∧ ((startingV 1 true).port .v).heard = true
        ∧ ((startingV 1 true).port .v).settings.trigger = .internal ∧ (State.reset.port .v).plan[0].length = 0
        ∧ ((startingV 1 false).port .v).idleRun = false)
      ∧ FollowsInWalk ((startingV 1 true).port .v) 0 :=
  ⟨by decide +kernel, slot_zero_follows _ (by decide +kernel) (by decide +kernel)⟩

/-- A RUNNING link at a silence count. -/
def silent (l : LinkId) (n : Nat) : State := (runningOn l).modPort l fun p => { p with silence := n }

theorem test_signal_lost :
    ((after (.signalLost .v) (silent .v 2)).port .v).state = .down
      ∧ ((after (.signalLost .v) (silent .v 2)).port .v).flags.signalLost = true
      ∧ ((after (.signalLost .v) (silent .v 1)).port .v).state = .running := by decide +kernel

theorem witness_SignalLossTakesTheLinkDown :
    ((silent .d 2).port .d).state = .running ∧ 2 ≤ ((silent .d 2).port .d).silence ∧ ((silent .v 1).port .v).silence < 2
      ∧ (((silent .v 2).modPort .v fun p => { p with state := .halted }).port .v).state = .halted
      ∧ (LinkId.v ≠ .d) := by decide +kernel

/-! ### Batches and ramps -/

/-- A ramp that waits for route 0 of `oneRoute`, with its marks. -/
def ramp (f : FreezeState) (settled converged : Bool) : State :=
  { (oneRoute .cyclic).setRoute 0 { (oneRoute .cyclic).route 0 with settled := settled, converged := converged } with
    freeze := { state := f, timer := some 3 } }

theorem test_reevaluation :
    (ramp .freezing true false).reevaluate.freeze = { state := .frozen, timer := none }
      ∧ (ramp .freezing false false).reevaluate.freeze.state = .freezing
      ∧ (ramp .resuming true true).reevaluate.freeze.state = .run
      ∧ (ramp .resuming true false).reevaluate.freeze.state = .resuming := by decide +kernel

theorem witness_TearAndReevaluation : (timed .run 1).batch.isOpen = true ∧ State.reset.batch.isOpen = false
    ∧ (ramp .freezing true false).freeze.state = .freezing ∧ ((ramp .freezing false false).route 0).settled = false
    ∧ ((ramp .resuming true false).route 0).converged = false ∧ (ramp .freezing true false).Counted 0 := by
  unfold State.Counted
  decide +kernel

/-! ### Slots -/

/-- Unity gain and L = 100: the held value moves from 0 to 100 toward 1000, and the CYCLIC frame carries it (R53,
R54). -/
theorem test_slot_timer_expiry :
    let t := after (.slotTimerExpiry .v) (oneRoute .cyclic)
    (t.route 0).held = 100 ∧ t.now = 50 ∧ (t.port .v).slotTimer = some 550 ∧ (t.port .v).transmitSeq = 1
      ∧ ((t.port .v).line.map fun x => (x.bytes.take 9, x.complete)) =
        some ([1, 0, 0, 0, 0, 0, 2, 0, 100], 50 + 11 * 2) := by decide +kernel

theorem test_sync_edge :
    let s := (oneRoute .idle).modPort .v fun p =>
      { p with settings := { p.settings with trigger := .external }, slotTimer := none }
    ((after (.syncEdge .v) s).port .v).walk = some 0 ∧ ((after (.syncEdge .v) s).port .v).slotTimer = none
      ∧ ((after (.syncEdge .v) (oneRoute .idle)).port .v).walk = none := by decide +kernel

theorem witness_ExpiryOrEdgeOpensTheNextSlot :
    FollowsInWalk ((oneRoute .idle).port .v) 0
      ∧ ((oneRoute .idle).port .v).state = .running ∧ ((oneRoute .idle).port .v).slotTimer = some 50
      ∧ ((runningOn .v).port .v).plan[0].length = 0 ∧ ((runningOn .v).port .v).slotTimer = none
      ∧ ((oneRoute .idle).port .v).settings.trigger = .internal ∧ (LinkId.v ≠ .d) := by
  exact ⟨slot_zero_follows _ (by decide +kernel) (by decide +kernel), by decide +kernel⟩

/-- Link V with a snapshot of a template, and a frame on the line or none. -/
def withSnapshot (rule : SlotRule) (t : BitVec 2) (line : Option Transmission) : State :=
  (oneRoute rule).modPort .v fun p =>
    { p with snapshot := some { template := t, payload := [7], receiverAddress := true, stepTag := 9 }, line := line }

theorem test_tail_slots :
    (((withSnapshot .tail 0 none).openSlot .v 0).port .v).line.map (fun x => x.bytes.take 8) =
        some [3, 1, 0, 0, 9, 0, 1, 7]
      ∧ (((withSnapshot .tail 1 none).openSlot .v 0).port .v).flags.tailOrphan = true
      ∧ (((withSnapshot .tail 0 (some ⟨[], 9⟩)).openSlot .v 0).port .v).flags.slotOverrun = true
      ∧ (((withSnapshot .tail 0 (some ⟨[], 9⟩)).openSlot .v 0).port .v).snapshot = none := by decide +kernel

theorem witness_OverrunIdleAndTailSlots :
    ((withSnapshot .tail 0 (some ⟨[], 9⟩)).port .v).line ≠ none ∧ ((withSnapshot .idle 0 none).port .v).line = none
      ∧ ((withSnapshot .idle 0 none).port .v).plan[0].rule = .idle
      ∧ ((withSnapshot .tail 0 none).port .v).plan[0].rule = .tail
      ∧ (((withSnapshot .tail 0 none).port .v).snapshot.map (·.template)) = some 0
      ∧ ((oneRoute .tail).port .v).snapshot = none := by decide +kernel

/-- A CUE_EVENT record eligible at an instant. -/
def event (eligible : Time) : CueEvent :=
  { route := 300, cue := 4, eventClass := 5, value := 0x0607, stepTag := 0x0102, receiverAddress := true
    eligible := eligible }

/-- Link V with one record in its queue. -/
def withEvent (rule : SlotRule) (eligible : Time) : State :=
  (oneRoute rule).modPort .v fun p => { p with queue := [.cueEvent (event eligible)] }

theorem test_event_slot :
    (((withEvent .eventOrIdle 0).openSlot .v 0).port .v).line.map (fun x => x.bytes.take 15) =
        some [4, 1, 0, 1, 2, 0, 8, 1, 44, 4, 5, 6, 7, 0, 0]
      ∧ (((withEvent .eventOrIdle 0).openSlot .v 0).port .v).eventCount = 1
      ∧ (((withEvent .eventOrIdle 1).openSlot .v 0).port .v).line = none := by decide +kernel

theorem witness_EventSlotsSendTheEligibleHead :
    ((withEvent .eventOrIdle 0).port .v).maySend (withEvent .eventOrIdle 0).now (.cueEvent (event 0))
      ∧ (∀ r, ¬ ((withEvent .eventOrCyclic 1).port .v).maySend (withEvent .eventOrCyclic 1).now r)
      ∧ ((withEvent .eventOrCyclic 1).port .v).plan[0].rule = .eventOrCyclic
      ∧ ((withEvent .eventOrIdle 0).port .v).plan[0].rule = .eventOrIdle := by
  refine ⟨⟨by decide +kernel, by decide +kernel, by decide +kernel⟩, ?_, by decide +kernel, by decide +kernel⟩
  rintro r ⟨h, he, -⟩
  have : r = .cueEvent (event 1) := by
    have h' : some (QueueRecord.cueEvent (event 1)) = some r := h
    exact (Option.some.inj h').symm
  subst this
  exact absurd he (by decide)

theorem witness_BuildSlotsSendTheirFrame :
    ((oneRoute .cyclic).port .v).line = none ∧ ((oneRoute .cyclic).port .v).plan[0].rule = .cyclic
      ∧ ((oneRoute .head).port .v).plan[0].rule = .head
      ∧ ((((oneRoute .head).modPort .v fun p => p.setTemplate 0 { oneField with fieldCount := 2, split := some 1 }).port
          .v).template 0).split = some 1 := by decide +kernel

theorem oneRoute_route (rule : SlotRule) (id : RouteId) :
    (oneRoute rule).route id =
      if id = 0 then { Route.afterReset with record := fieldRecord, settled := true } else Route.afterReset := by
  have h : ∀ s : State, ∀ e, (s.setCue 0 e).route id = s.route id := fun _ _ => rfl
  have hr : ∀ f, ((runningOn .v).modPort .v f).route id = Route.afterReset := fun f => by
    simp [runningOn, State.route, State.reset]
  unfold oneRoute
  rw [h, State.setRoute_route, hr]

theorem witness_positions (rule : SlotRule) : (oneRoute rule).FieldPositionsLawful := by
  intro id h
  rw [oneRoute_route] at h ⊢
  split at h
  · next h0 =>
    subst h0
    refine ⟨by cases rule <;> decide +kernel, fun k hk => ?_⟩
    rw [oneRoute_route, if_neg hk]
    rfl
  · cases h

/-- Route 0 of `oneRoute` held at a value, under a freeze state. -/
def heldAt (f : FreezeState) (v : Word) : State :=
  { (oneRoute .cyclic).setRoute 0 { (oneRoute .cyclic).route 0 with held := v, peak := some 7 } with
    freeze := { state := f, timer := none } }

/-- R53 with y4 = 1000, N = 0, L = 100, F = 50 and R111: a step of the limit, the target when it is that near, and the
converged mark exactly within F. -/
theorem test_compute_field :
    [(FreezeState.run, (0 : Word)), (.run, 900), (.run, 1100), (.run, 1200), (.freezing, 51), (.frozen, 50),
        (.resuming, 950), (.resuming, 949)].map
      (fun x => let y := ((heldAt x.1 x.2).computeField 0).route 0
        (y.held.toInt, y.settled, y.converged, y.peak)) =
    [(100, false, false, none), (1000, false, false, none), (1000, false, false, none), (1100, false, false, none),
      (1, false, false, none), (0, true, false, none), (1000, false, true, none), (999, false, false, none)] := by
  decide +kernel

/-- R52 and R56: a clip at 1001 against hi = 1000 is noted, a SWITCH source is masked and never clips. -/
theorem test_compute_clip :
    let clipping := (oneRoute .cyclic).setRoute 0
      { (oneRoute .cyclic).route 0 with record := { fieldRecord with bias := 1, hi := 1000, careMask := 0xFF } }
    let switching := clipping.setCue 0 (entry .live 0 0x1234 .switch)
    (clipping.computeField 0).flags.clipped = true ∧ clipping.unclamped 0 = 1001 ∧ clipping.clamped 0 = 1000
      ∧ (switching.computeField 0).flags.clipped = false ∧ ((switching.computeField 0).route 0).held = 0x34 := by
  decide +kernel

theorem witness_BuildComputesTheFieldsOfOneInstant :
    (heldAt .run 0).clamped 0 = 1000 ∧ (heldAt .run 0).sourceClass ((heldAt .run 0).route 0).record = .analog
      ∧ (oneRoute .cyclic).InTemplate .v 0 0 ∧ (oneRoute .cyclic).FieldPositionsLawful ∧ ((oneRoute .cyclic).route 0).record.link = .v
      ∧ ((oneRoute .cyclic).route 0).record.template = 0 ∧ (((oneRoute .cyclic).port .v).template 0).fields = 1 :=
  ⟨by decide +kernel, by decide +kernel, ⟨by decide +kernel, by decide +kernel, by decide +kernel⟩,
    witness_positions _, by decide +kernel, by decide +kernel, by decide +kernel⟩

theorem witness_bounded (rule : SlotRule) : (oneRoute rule).AnalogRoutesBounded := by
  intro id h
  by_cases h0 : id = 0
  · rw [oneRoute_route, if_pos h0] at h ⊢
    exact ⟨⟨by decide, by decide, by decide⟩, fun _ => ⟨by decide, by decide⟩⟩
  · rw [oneRoute_route, if_neg h0] at h
    cases h

theorem witness_SlotOpensMoveRoutesWithinTheirLimit :
    (∃ t, exec (.slotTimerExpiry .v) (oneRoute .cyclic) = .next t)
      ∧ (∃ t, exec (.millisecondTick []) (oneRoute .cyclic) = .next t)
      ∧ (fieldRecord.slew.toNat ≠ 0 ∧ fieldRecord.freezeSlew.toNat ≠ 0) ∧ (oneRoute .cyclic).AnalogRoutesBounded
      ∧ (oneRoute .cyclic).FieldPositionsLawful ∧ ((oneRoute .cyclic).route 0).record.kind = .field
      ∧ (oneRoute .cyclic).sourceClass ((oneRoute .cyclic).route 0).record = .analog :=
  ⟨slot_next _ _, ⟨_, rfl⟩, by decide, witness_bounded _, witness_positions _, by decide +kernel, by decide +kernel⟩

theorem test_transmit_complete :
    let s := (runningOn .v).modPort .v fun p => { p with line := some { bytes := [1], complete := 44 } }
    ((after (.transmitComplete .v) s).port .v).line = none ∧ (after (.transmitComplete .v) s).now = 44 := by
  decide +kernel

theorem witness_TransmitCompleteFreesTheLine :
    (((runningOn .v).modPort .v fun p => { p with line := some { bytes := [1], complete := 44 } }).port .v).line =
        some { bytes := [1], complete := 44 } ∧ ((runningOn .v).port .v).line = none := by decide +kernel

/-! ### Receiving -/

theorem test_line_symbol :
    ((after (.lineSymbolReceived .v .idleFill) (silent .v 1)).port .v).silence = 0
      ∧ ((after (.lineSymbolReceived .v .invalid) (silent .v 1)).port .v).silence = 1
      ∧ ((after (.lineSymbolReceived .v .data) (startingV 1 true)).port .v).idleRun = false
      ∧ ((after (.lineSymbolReceived .v .idleFill) (startingV 1 false)).port .v).fill = .begun
      ∧ ((after (.lineSymbolReceived .v .idleFill) (startingV 1 true)).port .v).fill = .whole
      ∧ ((after (.lineSymbolReceived .v .fillBreak) (startingV 1 true)).port .v).fill = .absent := by decide +kernel

/-- The table of R118. -/
theorem test_transmitter :
    State.reset.transmits .v = .quiet ∧ State.reset.transmits .d = .idleFill ∧ (runningOn .v).transmits .v = .idleFill
      ∧ (withSnapshot .tail 0 (some ⟨[1, 2], 9⟩)).transmits .v = .frame [1, 2]
      ∧ (portIn .c .halted 0 false false).transmits .c = .idleFill
      ∧ (portIn .c .down 0 false false).transmits .c = .idleFill := by decide +kernel

theorem witness_LinesFollowTheLinkState : (State.reset.port .v).state = .off ∧ ((silent .v 1).port .v).state ≠ .off
    ∧ (State.reset.port .d).state = .starting ∧ ((runningOn .v).port .v).line = none
      ∧ ((withSnapshot .tail 0 (some ⟨[1, 2], 9⟩)).port .v).line = some ⟨[1, 2], 9⟩ := by decide +kernel

/-- An UPDATE frame of one pair, cue 0 := 0102h, with its control bits and step tag 77. -/
def update (control : Byte) : Frame :=
  { kind := 6, control := control, seq := 9, stepTag := 77, summary := 0, payload := [0, 1, 2] }

theorem update_read (control : Byte) (h : control ∈ [(0 : Byte), 2, 4, 6]) :
    Frame.ofBytes (update control).toBytes = some (update control) := by
  simp only [List.mem_cons, List.not_mem_nil, or_false] at h
  rcases h with rfl | rfl | rfl | rfl <;> decide +kernel

theorem witness_FramesNotTaken :
    requestSeq (.arm 3 0 []) = some 3 ∧ ((State.reset.modPort .d fun p => { p with state := .off }).port .d).state = .off
      ∧ ((State.reset.modPort .d fun p => { p with state := .down }).port .d).state = .down
      ∧ Frame.ofBytes ({ update 0 with kind := 4 } : Frame).toBytes = some { update 0 with kind := 4 }
      ∧ (runningOn .v).inSequence .v 9 := by
  exact ⟨rfl, by decide +kernel, by decide +kernel, by decide +kernel,
    inSeq _ _ (by decide +kernel) (by decide +kernel) _⟩

theorem witness_FirstFramesAndGappedFramesAreUsed :
    requestSeq (.arm 3 0 []) = some 3 ∧ (State.reset.port .d).state = .starting
      ∧ (((runningOn .d).modPort .d fun p => { p with receiveSeq := some 3 }).port .d).receiveSeq = some 3
      ∧ (3 : Byte) ≠ 3 + 1 ∧ Frame.ofBytes (update 0).toBytes = some (update 0) := by
  exact ⟨rfl, by decide +kernel, by decide +kernel, by decide, update_read 0 (by decide)⟩

theorem test_frame_ended_early :
    let halting := (runningOn .v).modPort .v fun p => { p with settings := { p.settings with haltOnCheck := true } }
    ((after (.frameEndedEarly .v .idleFill) (runningOn .v)).port .v).flags.checkErr = true
      ∧ ((after (.frameEndedEarly .v .idleFill) (runningOn .v)).port .v).state = .running
      ∧ ((after (.frameEndedEarly .v .invalid) halting).port .v).state = .halted
      ∧ (after (.frameEndedEarly .d .frameStart) (timed .run 1)).flags.stepTorn = true
      ∧ ((after (.frameEndedEarly .v .idleFill) (startingV 1 true)).port .v).idleRun = false
      ∧ ((after (.frameEndedEarly .v .idleFill) (startingV 1 true)).port .v).fill = .begun := by decide +kernel

theorem witness_CheckFailures :
    (State.reset.port .v).state = .off ∧ (State.reset.port .d).state = .starting ∧ ((runningOn .d).port .d).state = .running
      ∧ ((runningOn .v).port .v).settings.haltOnCheck = false ∧ Frame.ofBytes [] = none
      ∧ (((runningOn .v).modPort .v fun p => { p with settings := { p.settings with haltOnCheck := true } }).port
          .v).settings.haltOnCheck = true := by decide +kernel

/-! ### Updates -/

theorem test_board_update :
    let s := (runningOn .v).setCue 0 (entry .held 30 5 .analog (some .v))
    s.acceptedCues .v (update 0).payload = [(0, 0x0102)] ∧ ((s.writeCommit 3 [(0, 0x0102)]).cue 0).previous = 5
      ∧ ((after (.frameReceived .v (update 0).toBytes) (runningOn .v)).port .v).flags.ownerMismatch = true := by
  decide +kernel

theorem witness_BoardUpdateCommitsItsOwnCues :
    (LinkId.v ≠ .d) ∧ Frame.ofBytes (update 0).toBytes = some (update 0) ∧ (update 0).kind = 0x06
      ∧ (runningOn .v).inSequence .v 9
      ∧ ((runningOn .v).setCue 0 (entry .held 30 5 .analog (some .v))).commits .v (update 0) 0 = some 0x0102 :=
  ⟨by decide, update_read 0 (by decide), rfl, inSeq _ _ (by decide +kernel) (by decide +kernel) _, by decide +kernel⟩

/-- Link D RUNNING, cue 0 owned by D with a pending value, the batch open or closed. -/
def stepping (isOpen : Bool) : State :=
  { (runningOn .d).setCue 0 { entry .live 3 5 with pending := some 8 } with
    batch := { isOpen := isOpen, openTag := 70, timer := if isOpen then some 2 else none, currentTag := 69 } }

/-- R28 and R29: an opening frame tears the open batch and takes its own tag; a continuation frame adds to it. -/
theorem test_link_d_update :
    (after (.frameReceived .d (update 2).toBytes) (stepping true)).flags.stepTorn = true
      ∧ (after (.frameReceived .d (update 2).toBytes) (stepping true)).batch.openTag = 77
      ∧ ((after (.frameReceived .d (update 0).toBytes) (stepping true)).cue 0).pending = some 0x0102 := by decide +kernel

/-- R4: a commit keeps the value it replaces and starts the age again. -/
theorem test_commit :
    let e := { entry .held 30 5 with pending := some 8 }.commit 8 70
    (e.value, e.previous, e.stepTag, e.age, e.state, e.pending) = (8, 5, 70, 0, .live, none) := by decide +kernel

theorem witness_LinkDUpdateActsOnTheBatch :
    (∀ c ∈ [(0 : Byte), 2, 4, 6], Frame.ofBytes (update c).toBytes = some (update c) ∧ (update c).kind = 0x06)
      ∧ (stepping true).inSequence .d 9 ∧ (stepping true).batch.isOpen = true ∧ (stepping false).batch.isOpen = false
      ∧ (stepping false).inSequence .d 9
      ∧ [(0 : Byte), 2, 4, 6].map (fun c => ((stepping true).commits .d (update c) 0, (stepping false).commits .d (update c) 0)) =
        [(none, some 0x0102), (none, none), (some 0x0102, some 0x0102), (some 0x0102, some 0x0102)] :=
  ⟨fun c h => ⟨update_read c h, rfl⟩, inSeq _ _ (by decide +kernel) (by decide +kernel) _, rfl, rfl,
    inSeq _ _ (by decide +kernel) (by decide +kernel) _, by decide +kernel⟩

/-- Cue 0 owned by V feeds route 0, of combine PEAK, whose register holds −900. -/
def peaking : State :=
  ((runningOn .v).setCue 0 (entry .live 0 5 .analog (some .v))).setRoute 0
    { Route.afterReset with record := { fieldRecord with combine := .peak }, peak := some (-900) }

/-- R57: 258 is of lesser magnitude than −900, which stays. -/
theorem test_peak_keeps_the_greater :
    peakAfter (some (-900)) 258 = -900 ∧ peakAfter (some (-900)) 900 = 900 ∧ peakAfter (some 900) (-32768) = -32768 := by
  decide

theorem witness_PeakRegistersFollowCommits :
    peaking.inSequence .v 9 ∧ (stepping true).inSequence .d 9
      ∧ (∃ t, exec (.frameReceived .v (update 0).toBytes) peaking = .next t)
      ∧ (peaking.route 0).record.kind = .field ∧ (peaking.route 0).record.combine = .peak
      ∧ peaking.commits .v (update 0) 0 = some 0x0102
      ∧ [some (-900 : Word), some 100, none].map (fun k => ({ peaking.route 0 with peak := k }).peakWith 258) = [-900, 258, 258]
      ∧ (stepping true).commits .d (update 4) 0 = some 0x0102 ∧ (stepping true).commits .d (update 2) 0 = none :=
  ⟨inSeq _ _ (by decide +kernel) (by decide +kernel) _, inSeq _ _ (by decide +kernel) (by decide +kernel) _,
    frame_next _ _ _, by decide +kernel⟩

/-! ### Event routes -/

/-- Route 0 an EVENT route of cue 0 on Link V, threshold 1000, hysteresis 10, armed or not. -/
def eventRoute (dir : Direction) (armed : Bool) (value : Word) (cls : CueClass := .analog) : State :=
  ((oneRoute .idle).setRoute 0
    { Route.afterReset with
      record := { fieldRecord with kind := .event, direction := dir, threshold := 1000, hysteresis := 10, careMask := 1 }
      armed := armed }).setCue 0 (entry .live 0 value cls)

/-- The boundaries of the table of R68. -/
theorem test_threshold_boundaries :
    [(1000, true), (999, true), (989, false), (990, false)].map
        (fun c => (((eventRoute .rising c.2 c.1).evaluate 0).route 0).armed) = [false, true, true, false]
      ∧ [(1000, true), (1001, true), (1011, false), (1010, false)].map
        (fun c => (((eventRoute .falling c.2 c.1).evaluate 0).route 0).armed) = [false, true, true, false]
      ∧ ((eventRoute .rising true 1000).evaluate 0).level .v = 1
      ∧ ((eventRoute .rising true 999).evaluate 0).level .v = 0 := by decide +kernel

theorem witness_EventRoutesFireAtTheirConditions :
    (eventRoute .rising true 1000).freeze.state = .run
      ∧ ((eventRoute .rising true 1000).port ((eventRoute .rising true 1000).route 0).record.link).state = .running
      ∧ [1000, 999, 989, 990].map (fun v => (eventRoute .rising true v).limited
          ((eventRoute .rising true v).route 0).record none) = [1000, 999, 989, 990]
      ∧ (eventRoute .rising true 1 .switch).sourceClass ((eventRoute .rising true 1 .switch).route 0).record = .switch
      ∧ ((eventRoute .rising true 1 .switch).cue 0).value &&& 1 ≠ ((eventRoute .rising true 1 .switch).cue 0).previous &&& 1
      ∧ (eventRoute .rising true 1000).eventRoutesOf [0] = [0] ∧ (eventRoute .rising true 1000).eventRoutesOf [1] = []
      ∧ ((State.reset.port .v).state ≠ .running) := by decide +kernel

theorem witness_OffersMergeAppendOrDrop :
    QueueRecord.cueEvent (event 0) ∈ ((withEvent .idle 0).port .v).queue ∧ ((runningOn .v).port .v).queue = []
      ∧ (((runningOn .v).modPort .v fun p => { p with queue := List.replicate 16 (.cueEvent (event 0)) }).port
          .v).queue.length = 16
      ∧ ((runningOn .d).port .d).state = .running ∧ (State.reset.port .d).state ≠ .running := by decide +kernel

/-! ### Requests -/

theorem test_arm_and_disarm :
    (after (.arm 0 7 []) (runningOn .d)).management.armLatch = true ∧ replies (after (.arm 0 7 []) (runningOn .d)) = [(7, 1, 0, 0)]
      ∧ (after (.disarm 0 7 []) armed).management.armLatch = false := by decide +kernel

/-- R14: of Link D's four cues only the HELD, FADING and RESTED count, and of the others none. -/
theorem test_stale_cues :
    let s := ([(0, entry .live 1 1), (1, entry .empty 0 1), (2, entry .held 30 1), (3, entry .fading 130 1),
      (4, entry .rested 140 0), (5, entry .held 30 1 .analog (some .v)), (6, entry .held 30 1 .analog none)] :
        List (CueId × CueEntry)).foldl (fun s x => s.setCue x.1 x.2) State.reset
    LinkId.all.map (fun l => (s.staleCues l, s.staleCount l)) = [([2, 3, 4], 3), ([5], 1), ([], 0), ([], 0)] := by
  decide +kernel

theorem test_status : replies (after (.status 0 7 []) armed) = [(7, 3, 0, 1)] := by decide +kernel

theorem test_cursor :
    (after (.cursor 0 7 [1, 1, 127]) armed).management.cursorIndex = 383
      ∧ replies (after (.cursor 0 7 [1, 1, 128]) armed) = [(7, 4, 5, 0)]
      ∧ replies (after (.cursor 0 7 [6, 0, 0]) armed) = [(7, 4, 6, 0)] := by decide +kernel

/-- A CUE record of class SWITCH, owner A. -/
def cueBytes : List Byte := [0x82, 0, 0, 0, 5, 0, 0, 0, 1, 0, 0, 0, 0, 0]

theorem test_put :
    ((after (.put 0 7 cueBytes) armed).cue 0).config.owner = some .a
      ∧ (after (.put 0 7 cueBytes) armed).management.cursorIndex = 1
      ∧ replies (after (.put 0 7 cueBytes) armed) = [(7, 5, 0, 1)]
      ∧ replies (after (.put 0 7 cueBytes) (runningOn .d)) = [(7, 5, 1, 0)] := by decide +kernel

theorem test_put_keeps_a_part :
    (after (.put 0 7 (cueBytes.take 13)) armed).management.partialRecord.length = 13
      ∧ (after (.status 1 7 []) (after (.put 0 7 (cueBytes.take 13)) armed)).flags.partialDiscarded = true := by
  decide +kernel

theorem test_get :
    replies (after (.get 0 7 [9]) armed) = [(7, 6, 0, 3)] ∧ (after (.get 0 7 [9]) armed).management.cursorIndex = 3
      ∧ replies (after (.get 0 7 [0]) armed) = [(7, 6, 6, 0)] := by decide +kernel

/-- A FILL of cues 250 to 251 with `cueBytes`. -/
def filling : State := after (.fill 0 7 ([0, 0, 250, 0, 2] ++ cueBytes)) armed

theorem test_fill :
    filling.management.fillNext = 250 ∧ filling.management.armLatch = false
      ∧ (filling.management.fill.map fun j => (j.last, j.due)) = some (251, 10)
      ∧ replies (after (.fill 0 7 ([0, 0, 250, 0, 7] ++ cueBytes)) armed) = [(7, 7, 5, 0)] := by decide +kernel

theorem test_fill_write :
    let once := after .fillWrite filling
    let twice := after .fillWrite once
    once.now = 10 ∧ (once.cue 250).config.cls = .switch ∧ once.management.fillNext = 251 ∧ replies once = []
      ∧ twice.management.fill = none ∧ replies twice = [(7, 7, 0, 2)] ∧ twice.management.fillNext = 252 := by
  decide +kernel

theorem test_override_and_release :
    let t := after (.override 0 7 [40, 0xFF, 0x38]) armed
    (t.effective 40).toInt = -200 ∧ (after (.release 1 7 [40]) t).effective 40 = 0
      ∧ replies (after (.override 0 7 [40, 0xFF]) armed) = [(7, 8, 6, 0)] := by decide +kernel

theorem test_freeze :
    (after (.freeze 0 7 []) (runningOn .d)).freeze = { state := .frozen, timer := none }
      ∧ (after (.freeze 0 7 []) ((ramp .run false false).setPort .d ((runningOn .d).port .d))).freeze = { state := .freezing, timer := some 0 } := by decide +kernel

theorem test_resume :
    (after (.resume 0 7 []) { runningOn .d with freeze := { state := .frozen, timer := none } }).freeze.state = .run := by
  decide +kernel

theorem test_link_start_and_stop :
    replies (after (.linkStart 0 7 0 []) armed) = [(7, 12, 9, 0)] ∧ replies (after (.linkStart 0 7 1 []) armed) = [(7, 12, 6, 0)]
      ∧ replies (after (.linkStart 0 7 4 []) armed) = [(7, 12, 5, 0)] ∧ replies (after (.linkStop 0 7 0 []) armed) = [(7, 12, 9, 0)]
      ∧ replies (after (.linkStop 0 7 3 []) armed) = [(7, 12, 0, 0)]
      ∧ replies (after (.linkBadAction 0 7 3 3 []) armed) = [(7, 12, 6, 0)] := by decide +kernel

theorem test_link_reset_of_d :
    let t := after (.linkReset 0 7 0 []) (stepping true)
    (t.port .d).state = .starting ∧ t.flags.replyLost = true ∧ t.flags.stepTorn = true ∧ (t.cue 0).pending = none := by
  decide +kernel

theorem test_clear :
    let s := { runningOn .d with flags := { GlobalFlags.clear with stepTorn := true, clipped := true } }
    (after (.clear 0 7 [0x40, 0, 0, 0, 0, 0, 0, 0, 0]) s).flags = { GlobalFlags.clear with stepTorn := true } := by
  decide +kernel

theorem test_protect_and_lock :
    (after (.protect 0 7 [1, 128, 1]) armed).management.boundary = 384
      ∧ replies (after (.protect 0 7 [1, 129, 1]) armed) = [(7, 14, 6, 0)]
      ∧ (after (.lock 0 7 []) armed).management.limitLock = true
      ∧ replies (after (.lock 0 7 []) (runningOn .d)) = [(7, 15, 1, 0)] := by decide +kernel

theorem test_reset_needs_its_arm :
    replies (after (.reset 0 7 []) armed) = [(7, 17, 1, 0)]
      ∧ (after (.reset 1 7 []) (after (.resetArm 0 7 []) armed)).management.armLatch = false
      ∧ ((after (.reset 1 7 []) (after (.resetArm 0 7 []) armed)).port .d).state = .starting := by decide +kernel

theorem test_refused_without_work :
    replies (after (.unknownRequest 0 7 99 []) armed) = [(7, 99, 10, 0)]
      ∧ replies (after (.shortRequestPayload 0 none) armed) = [(0, 0, 6, 0)] := by decide +kernel

theorem test_power_on_reset :
    let t := after (.powerOnReset true false) armed
    (t.port .d).settings.rate = .mbit50 ∧ (t.port .d).state = .starting ∧ t.management.armLatch = false := by
  decide +kernel

/-- Link D is ready for a request of any sequence in each state that the request statements need: without and with the
arm latch, with bytes in the buffer, with a FILL in flight, with the reset arm and the limit lock, under a cursor inside
its table, in each freeze state. -/
theorem witness_requests (seq : Byte) :
    (runningOn .d).readyFor seq ∧ armed.readyFor seq
      ∧ (armed.management.armLatch = true ∧ armed.management.fill = none ∧ (runningOn .d).management.armLatch = false
        ∧ armed.management.cursorIndex < armed.management.cursorTable.size ∧ armed.management.resetArm = false
        ∧ armed.management.limitLock = false)
      ∧ (∀ m : Management, ({ runningOn .d with management := m }).readyFor seq)
      ∧ (∀ f : FreezeControl, ({ runningOn .d with freeze := f }).readyFor seq) := by
  refine ⟨ready _ (by decide +kernel) (by decide +kernel) (by decide +kernel) _,
    ready _ (by decide +kernel) (by decide +kernel) (by decide +kernel) _, by decide +kernel, fun m => ?_, fun f => ?_⟩
  · exact ready _ rfl rfl (show ((runningOn .d).port .d).queue.length < 16 by decide +kernel) _
  · exact ready _ rfl rfl (show ((runningOn .d).port .d).queue.length < 16 by decide +kernel) _

theorem witness_LatchRequestsSetTheirLatch (seq : Byte) : armed.readyFor seq ∧ (runningOn .d).readyFor seq :=
  ⟨(witness_requests seq).2.1, (witness_requests seq).1⟩

theorem witness_RequestsWithoutWorkAreRefused (seq : Byte) : armed.readyFor seq
    ∧ requestCodeIsKnown 0 = false ∧ requestCodeIsKnown 0x11 = true ∧ requestCodeIsKnown 0x12 = false
      ∧ 2 < (3 : Byte).toNat ∧ 3 < (4 : Byte).toNat ∧ (3 : Byte).toNat ≤ 3 :=
  ⟨(witness_requests seq).2.1, by decide⟩

/-- The summary byte: RESUMING, a batch open, a flag set and, with 12 records on Link D, PRESSURE (R79, R132). -/
theorem test_summary :
    let s := { (timed .resuming 1).modPort .d fun p => { p with queue := List.replicate 12 (.reply (plainReply 0 0 0 0)) } with
      flags := { GlobalFlags.clear with clipped := true } }
    s.summary = 0xEC ∧ State.reset.summary = 0 ∧ filling.summary = 0x10 := by decide +kernel

theorem witness_StatusAndSummaryReportThePart (seq : Byte) : armed.readyFor seq ∧ (LinkId.all.map LinkId.number) = [0, 1, 2, 3] :=
  ⟨(witness_requests seq).2.1, by decide⟩

/-- The clauses of CURSOR at their boundaries: two bytes and three, table codes 5 and 6, the last index and the next. -/
theorem witness_CursorMovesInsideItsTable (seq : Byte) : armed.readyFor seq
    ∧ TableId.ofCode 5 = some .global ∧ TableId.ofCode 6 = none ∧ TableId.ofCode 1 = some .route
      ∧ (wordAt [1, 1, 127] 1).toNat + 1 = TableId.route.size ∧ (wordAt [1, 1, 128] 1).toNat = TableId.route.size :=
  ⟨(witness_requests seq).2.1, by decide⟩

/-- The clauses of GET: no argument, a count of 0, a count of 1, a count above the three CUE records that fit. -/
theorem witness_GetReadsFromTheCursor (seq : Byte) : armed.readyFor seq
    ∧ armed.management.cursorIndex < armed.management.cursorTable.size
      ∧ 48 / TableId.cue.recordBytes = 3 ∧ byteAt [0] 0 = 0 ∧ byteAt [1] 0 ≠ 0 :=
  ⟨(witness_requests seq).2.1, by decide +kernel⟩

/-- A CUE record read back from a cue with an override and no pending value, FADING, tag 9 (R20). -/
theorem test_cue_record :
    ({ entry .fading 0 5 with override := some 0x0102, stepTag := 9 }).toBytes =
      [0x00, 0, 0, 0, 20, 0, 100, 0, 64, 0x13, 1, 2, 0, 9] := by decide

/-- A ROUTE record with a different number in every field, and a TEMPLATE record (R135, R136). -/
theorem test_route_and_template_layout :
    ({ kind := .event, combine := .diff, substitutePresent := true, direction := .falling, receiverAddress := false
       sourceBPresent := true, link := .c, template := 2, shift := 5, position := 6, sourceA := 7, sourceB := 8
       eventClass := 9, substitute := 0x0A0B, gain := 0x0C0D, deadband := 0x0E0F, bias := 0x1011, lo := 0x1213
       hi := 0x1415, slew := 0x1617, freezeSlew := 0x1819, neutral := 0x1A1B, careMask := 0x1C1D, threshold := 0x1E1F
       hysteresis := 0x2021 } : RouteRecord).toBytes =
      [0xAD, 0xE5, 6, 7, 8, 9, 0x0A, 0x0B, 0x0C, 0x0D, 0x0E, 0x0F, 0x10, 0x11, 0x12, 0x13, 0x14, 0x15, 0x16, 0x17, 0x18,
        0x19, 0x1A, 0x1B, 0x1C, 0x1D, 0x1E, 0x1F, 0x20, 0x21]
      ∧ ({ receiverAddress := true, fieldCount := 10, split := some 3, tailAddress := false, wide := 0x800001 } :
          Template).toBytes = [1, 10, 3, 0, 0x80, 0, 1] := by decide

theorem witness_OverrideAndReleaseTouchTheOverride (seq : Byte) : armed.readyFor seq
    ∧ 3 ≤ ([40, 0xFF, 0x38] : List Byte).length ∧ ([40, 0xFF] : List Byte).length < 3 ∧ 1 ≤ ([40] : List Byte).length :=
  ⟨(witness_requests seq).2.1, by decide⟩

/-- Link D ready, and a counted route on Link V, unsettled, under each freeze state; and no route counted. -/
theorem witness_FreezeAndResumeStartTheirRamps (seq : Byte) (f : FreezeState) :
    let s := (ramp f false false).setPort .d ((runningOn .d).port .d)
    s.readyFor seq ∧ s.freeze.state = f ∧ s.Counted 0 ∧ (s.route 0).settled = false
      ∧ (runningOn .d).readyFor seq ∧ ((runningOn .d).route 0).record.kind ≠ .field := by
  refine ⟨ready _ ?_ ?_ ?_ _, ?_, ⟨?_, ?_, ⟨0, ?_, ?_, ?_⟩⟩, ?_, (witness_requests seq).1, by decide +kernel⟩ <;>
    cases f <;> decide +kernel

/-- A reset of Link D with an open batch, of a RUNNING board link with a FIELD route, and of no link. -/
theorem witness_LinkResetStartsTheLinkAfresh (seq : Byte) :
    (stepping true).readyFor seq ∧ (stepping true).batch.isOpen = true ∧ (stepping true).management.fill = none
      ∧ ((oneRoute .idle).route 0).record.link = .v ∧ ((oneRoute .idle).route 0).record.kind = .field
      ∧ ((eventRoute .rising false 0).route 0).record.kind = .event
      ∧ (0 : Byte).toNat = LinkId.d.number ∧ (3 : Byte).toNat = LinkId.c.number ∧ 3 < (4 : Byte).toNat := by
  exact ⟨ready _ (by decide +kernel) (by decide +kernel) (by decide +kernel) _, by decide +kernel⟩

theorem witness_ClearClearsTheNamedFlags (seq : Byte) : armed.readyFor seq
    ∧ (List.replicate 8 (0 : Byte)).length < 9 ∧ 9 ≤ (List.replicate 9 (0 : Byte)).length :=
  ⟨(witness_requests seq).2.1, by decide⟩

/-- The clauses of PROTECT at their boundaries: 384 and 385, sides 1 and 2, the lock clear and set. -/
theorem witness_ProtectAndLock (seq : Byte) : armed.readyFor seq ∧ armed.management.armLatch = true
    ∧ armed.management.fill = none ∧ armed.management.limitLock = false
      ∧ (armed.modManagement fun m => { m with limitLock := true }).management.armLatch = true
      ∧ (wordAt [1, 128, 1] 0).toNat = 384 ∧ (wordAt [1, 129, 1] 0).toNat = 385
      ∧ (byteAt [1, 128, 1] 2).toNat ≤ 1 ∧ 1 < (byteAt [1, 128, 2] 2).toNat :=
  ⟨(witness_requests seq).2.1, by decide +kernel⟩

theorem witness_ResetIsAPartReset (seq : Byte) (lock : Bool) :
    let s := armed.modManagement fun m => { m with resetArm := true, limitLock := lock }
    s.readyFor seq ∧ s.management.resetArm = true ∧ s.management.limitLock = lock
      ∧ armed.readyFor seq ∧ armed.management.resetArm = false := by
  refine ⟨ready _ ?_ ?_ ?_ _, ?_, ?_, (witness_requests seq).2.1, by decide +kernel⟩ <;> cases lock <;> decide +kernel

/-- Two CUE records accepted one after another, a third refused (owner code 5), and bytes left over. -/
theorem test_put_of_two :
    let t := after (.put 0 7 (cueBytes ++ cueBytes ++ 5 :: cueBytes.tail)) armed
    replies t = [(7, 5, 6, 2)] ∧ t.management.cursorIndex = 2 ∧ t.management.partialRecord = []
      ∧ (t.cue 1).config.owner = some .a ∧ (t.cue 2).config.owner = none
      ∧ (after (.put 0 7 (cueBytes ++ [1, 2])) armed).management.partialRecord = [1, 2] := by decide +kernel

/-- The clauses of PUT: bytes below a record, a run of one record with none and with 13 bytes left, a refused record. -/
theorem witness_PutWritesAtTheCursor :
    (cueBytes.take 13).length < TableId.cue.recordBytes ∧ cueBytes.length = TableId.cue.recordBytes
      ∧ (∃ u next, State.WritesRun .cue armed 255 [cueBytes] u next ∧ next = 0)
      ∧ (CueConfig.ofBytes cueBytes).map CueConfig.inRange = some true
      ∧ CueConfig.ofBytes (5 :: cueBytes.tail) = none :=
  ⟨by decide, by decide, ⟨_, _, ⟨_, rfl, rfl, rfl⟩, rfl⟩, by decide +kernel, by decide⟩

/-- The clauses of FILL at their boundaries: a run that ends at the table's last index and one that passes it, and a
protected index. -/
theorem witness_FillIsAcceptedOrRefused :
    5 + TableId.cue.recordBytes = ([0, 0, 250, 0, 6] ++ cueBytes : List Byte).length ∧ 250 + 6 = TableId.cue.size
      ∧ TableId.cue.size < 250 + 7 ∧ TableId.ofCode 6 = none
      ∧ ({ Management.afterReset with boundary := 1 }).protects 0 = true
      ∧ Management.afterReset.protects 0 = false := by decide

theorem witness_FillWritesGoOnOrEnd :
    filling.management.fill.isSome = true ∧ State.reset.management.fill = none
      ∧ (after .fillWrite filling).management.fill.map (·.last) = some 251
      ∧ (after .fillWrite filling).management.fillNext = 251 := by decide +kernel

theorem witness_LinkStartAndStop :
    ((1 : Byte).toNat = LinkId.v.number) ∧ (armed.port .v).state ≠ .starting ∧ (armed.port .v).state ≠ .running
      ∧ (armed.port .v).plan[0].length = 0 ∧ (armed.port .d).state = .running ∧ 3 < (4 : Byte).toNat
      ∧ ((oneRoute .idle).port .v).plan[0].length ≠ 0 ∧ ((oneRoute .idle).port .v).state = .running := by decide +kernel

/-- A full queue on Link D. -/
theorem witness_RequestsAtAFullQueueAreLost (seq : Byte) :
    let s := (runningOn .d).modPort .d fun p =>
      { p with queue := List.replicate 16 (.reply (plainReply 0 0 0 0)) }
    s.inSequence .d seq ∧ 16 ≤ (s.port .d).queue.length ∧ requestSeq (.put seq 0 []) = some seq := by
  exact ⟨inSeq _ _ (by decide +kernel) (by decide +kernel) _, by decide +kernel, rfl⟩

theorem witness_GuardedRequestsNeedTheLatch :
    (runningOn .d).management.armLatch = false ∧ filling.management.fill ≠ none
      ∧ filling.management.partialRecord = []
      ∧ (filling.modManagement fun m => { m with armLatch := true }).management.armLatch = true := by decide +kernel

/-- The refusal of a record, or none. -/
def refusal (t : TableId) (i : Nat) (bs : List Byte) (s : State) : Option ResultCode :=
  match s.writeRecord t i bs with
  | .error code => some code
  | .ok _ => none

/-- Link V with one slot of a rule and length, and a template 0 of 24 fields of 16 bits. -/
def wideSlot (rule : SlotRule) (length : Word) : State :=
  State.reset.modPort .v fun p =>
    { (p.setTemplate 0 { Template.afterReset with fieldCount := 24, wide := 0xFFFFFF }) with
      plan := p.plan.set 0 { rule := rule, template := 0, length := length } }

/-- R120 at its boundaries: codes, Link D's fixed fields, a RUNNING link, and 50 µs for 56 bytes at 12.5 Mbit/s (R100). -/
theorem test_link_record :
    [[1, 0, 0, 0, 3, 15], [3, 0, 0, 0, 1, 4], [1, 2, 0, 0, 1, 4], [1, 0, 0, 2, 1, 4], [1, 0, 0, 0, 0, 4],
        [1, 0, 0, 0, 4, 4], [1, 0, 0, 0, 1, 16]].map (fun bs => refusal .link 1 bs State.reset) =
      [none, some .badValue, some .badValue, some .badValue, some .badValue, some .badValue, some .badValue]
      ∧ [[0, 0, 0, 0, 2, 5], [1, 0, 0, 0, 1, 4], [0, 0, 1, 0, 1, 4], [0, 0, 0, 1, 1, 4]].map
          (fun bs => refusal .link 0 bs State.reset) = [none, some .badValue, some .badValue, some .badValue]
      ∧ refusal .link 0 [0, 1, 0, 0, 1, 4] State.reset = some .linkState
      ∧ refusal .link 0 [0, 1, 0, 0, 1, 4] (portIn .d .down 0 false false) = none
      ∧ refusal .link 1 [1, 1, 0, 0, 1, 4] (runningOn .v) = some .linkState
      ∧ refusal .link 1 [1, 0, 0, 1, 1, 4] (runningOn .v) = none
      ∧ refusal .link 1 [0, 0, 0, 0, 1, 4] (wideSlot .cyclic 49) = some .slotTooShort
      ∧ refusal .link 1 [0, 0, 0, 0, 1, 4] (wideSlot .cyclic 50) = none := by decide +kernel

/-- The windows of R37 and R108 at their ends: 0, 1, 255, 256, 60000, 60001. -/
theorem test_global_record :
    [[0, 1, 0, 1, 0, 1], [0, 255, 0xEA, 0x60, 0xEA, 0x60], [0, 0, 0, 1, 0, 1], [1, 0, 0, 1, 0, 1], [0, 1, 0, 0, 0, 1],
        [0, 1, 0xEA, 0x61, 0, 1], [0, 1, 0, 1, 0xEA, 0x61]].map (fun bs => refusal .global 0 bs State.reset) =
      [none, none, some .badValue, some .badValue, some .badValue, some .badValue, some .badValue] := by decide +kernel

/-- R84 at its boundaries: 24 and 25 fields, a split point of n − 1 and of n, a HEAD slot that loses its split point, the
position of a route, 27 µs for 56 bytes at 25 Mbit/s. -/
theorem test_template_record :
    [[0, 24, 0, 0, 0, 0, 0], [0, 25, 0, 0, 0, 0, 0], [0, 2, 1, 0, 0, 0, 0], [0, 2, 2, 0, 0, 0, 0], [0, 0, 0, 0, 0, 0, 0]].map
        (fun bs => refusal .template 4 bs (oneRoute .cyclic)) =
      [none, some .badValue, none, some .badValue, some .positionTaken]
      ∧ refusal .template 4 [0, 1, 0, 0, 0, 0, 0] (oneRoute .head) = some .badValue
      ∧ refusal .template 4 [0, 24, 0, 0, 255, 255, 255] (wideSlot .cyclic 26) = some .slotTooShort
      ∧ refusal .template 4 [0, 24, 0, 0, 255, 255, 255] (wideSlot .cyclic 27) = none
      ∧ refusal .template 4 [0, 24, 0, 0, 255, 255, 255] (wideSlot .eventOrIdle 26) = none := by decide +kernel

/-- R87 at its boundaries: rules 6 and 7, lengths 19 and 20, templates 3 and 4, a HEAD slot without a split point, 53 µs
for Link D's event frame at 12.5 Mbit/s. -/
theorem test_plan_record :
    [[6, 3, 0, 20], [7, 0, 0, 0], [6, 0, 0, 19], [6, 4, 0, 0], [7, 4, 0, 0], [3, 0, 0, 0], [3, 0, 0, 20], [1, 0, 0, 53],
        [1, 0, 0, 52]].map (fun slot => refusal .plan 0 (slot ++ List.replicate 20 0) State.reset) =
      [none, some .badValue, some .badValue, some .badIndex, some .badValue, none, some .badValue, none,
        some .slotTooShort] := by decide +kernel

/-- R88: a stopped walk is restarted under the INTERNAL trigger alone. -/
theorem test_restart_walk :
    let stopped := (oneRoute .idle).modPort .v fun p => { p with slotTimer := none }
    let external := stopped.modPort .v fun p => { p with settings := { p.settings with trigger := .external } }
    ((stopped.restartWalks).port .v).walk = some 0 ∧ ((stopped.restartWalks).port .v).slotTimer = some 500
      ∧ (external.restartWalks.port .v).walk = none ∧ ((oneRoute .idle).restartWalks.port .v).walk = none := by
  decide +kernel

/-- A CUE record that changes the class and one that keeps it; the further clauses' boundaries stand in the tests above. -/
theorem witness_CueLinkAndGlobalRecordsAreCheckedAndWritten :
    ((runningOn .v).port .v).state = .running
      ∧ SlotFits .v .mbit12 ((wideSlot .cyclic 50).port .v).plan[0] (((wideSlot .cyclic 50).port .v).template 0)
      ∧ ¬ SlotFits .v .mbit12 ((wideSlot .cyclic 49).port .v).plan[0] (((wideSlot .cyclic 49).port .v).template 0)
      ∧ (CueConfig.ofBytes cueBytes).map (fun c => (c.cls, c.owner)) = some (.switch, some .a)
      ∧ (State.reset.cue 0).config.cls = .analog ∧ CueConfig.ofBytes (5 :: cueBytes.tail) = none
      ∧ (CueConfig.ofBytes State.reset.cues[0].toBytes).map (fun c => (c.cls, c.owner)) = some (.analog, none) := by
  refine ⟨by decide +kernel, ⟨by decide +kernel, fun n h => ?_⟩, fun h => ?_, by decide +kernel⟩
  · have e : some n = some 56 := h.symm.trans (by decide +kernel)
    cases e
    decide +kernel
  · exact absurd (h.2 56 (by decide +kernel)) (by decide +kernel)

theorem witness_RouteTemplateAndPlanRecordsAreCheckedAndWritten :
    (fieldRecord.Consistent .analog ∧ ¬ ({ fieldRecord with freezeSlew := 101 }).Consistent .analog)
      ∧ FollowsInWalk { (oneRoute .idle).port .v with slotTimer := none } 0 ∧ (oneRoute .idle).InTemplate .v 0 0
      ∧ (planOfBytes (planBytes Plan.linkDAfterReset)) = .ok Plan.linkDAfterReset
      ∧ RouteRecord.ofBytes fieldRecord.toBytes = some fieldRecord
      ∧ RouteRecord.ofBytes (0xC0 :: fieldRecord.toBytes.tail) = none
      ∧ (oneRoute .idle).management.protects 0 = false ∧ (((oneRoute .idle).port .v).template 0).fields = 1
      ∧ (State.reset.port .v).templates[0].fields ≤ fieldRecord.position.toNat
      ∧ ((oneRoute .idle).route 0).record.position = fieldRecord.position
      ∧ (Template.ofBytes [0, 24, 0, 0, 255, 255, 255]).fields = 24
      ∧ (Template.ofBytes [0, 2, 1, 0, 0, 0, 0]).split = some 1 := by
  refine ⟨?_, slot_zero_follows _ (by decide +kernel) (by decide +kernel), ?_, rfl, by decide +kernel⟩
  · unfold RouteRecord.Consistent
    decide
  · unfold State.InTemplate
    decide +kernel

/-- A header and payload with their check byte. -/
def checked (body : List Byte) : List Byte := body ++ [crc8 body]

/-- R128 with the right check byte: an UPDATE payload of 4 bytes and an EVENT payload of 9 fail their check, one of 8
passes. -/
theorem test_frames_that_fail :
    Frame.ofBytes (checked [6, 0, 0, 0, 0, 0, 4, 0, 1, 2, 3]) = none
      ∧ Frame.ofBytes (checked ([4, 0, 0, 0, 0, 0, 9] ++ List.replicate 9 0)) = none
      ∧ (Frame.ofBytes (checked ([4, 0, 0, 0, 0, 0, 8] ++ List.replicate 8 0))).isSome = true := by decide +kernel

/-- The header of R132: kind, control, sequence, step tag, summary byte, payload length. -/
theorem test_frame_header :
    (Frame.toBytes { kind := 5, control := 1, seq := 2, stepTag := 0x0304, summary := 6, payload := [8, 9] }).take 9 =
      [5, 1, 2, 3, 4, 6, 2, 8, 9] := by decide +kernel

/-- A frame that passes and one string for each way to fail: its own length, the kind's maximum, the multiple of three,
the check byte. -/
theorem witness_FramesSurviveTheirBytes :
    (update 0).payload.length ≤ 60 ∧ (update 0).payload.length % 3 = 0
      ∧ Frame.ofBytes (update 0).toBytes = some (update 0) ∧ ([] : List Byte).length ≠ 8 + (byteAt [] 6).toNat
      ∧ 8 < (byteAt (checked ([4, 0, 0, 0, 0, 0, 9] ++ List.replicate 9 0)) 6).toNat
      ∧ (byteAt (checked [6, 0, 0, 0, 0, 0, 4, 0, 1, 2, 3]) 6).toNat % 3 ≠ 0
      ∧ (0xDE : Byte) ≠ crc8 [1, 0, 0, 0, 0, 0, 0] ∧ (update 0).payload.length < 256 :=
  ⟨by decide, by decide, update_read 0 (by decide), by decide +kernel⟩

theorem witness_RecordsSurviveTheirBytes :
    fieldRecord.toBytes.length = 30 ∧ RouteRecord.ofBytes fieldRecord.toBytes = some fieldRecord
      ∧ (CueConfig.ofBytes cueBytes).isSome = true ∧ 9 ≤ cueBytes.length
      ∧ oneField.split ≠ some 0 ∧ (∀ k : Fin 6, Plan.linkDAfterReset[k.val].length = 0
      ∨ 20 ≤ Plan.linkDAfterReset[k.val].length.toNat) ∧ 1 ≤ (LinkSettings.afterReset .mbit25).evMax := by decide +kernel

theorem witness_RequestRowsAreTheirFrames :
    requestSeq (.linkStart 3 1 2 []) = some 3 ∧ requestPayload (.linkStart 3 1 2 []) = some [1, 0x0C, 2, 0]
      ∧ (Instr.linkStart 3 1 2 []).wellFormed = true := by decide

/-! ### A lawful state with a command in front -/

theorem reset_route (id : RouteId) : State.reset.route id = Route.afterReset := by simp [State.route, State.reset]

theorem reset_cue (c : CueId) : State.reset.cue c = CueEntry.afterReset := by simp [State.cue, State.reset]

theorem witness_StepRunsTheFrontCommand : (withCommand State.reset).pending = [.arm 0 1 []]
    ∧ ∃ t, step (withCommand State.reset) = .next t := ⟨rfl, front_next _ rfl⟩

theorem witness_EmptyQueueIdles : State.reset.pending = [] := rfl

theorem witness_QueuesAndStoppedLinksStayLawful :
    (withCommand State.reset).QueuesLawful ∧ (withCommand State.reset).StoppedLinksQuiet := by
  refine ⟨fun l => ?_, fun l _ => ?_⟩
  · cases l <;> exact ⟨by decide, by decide, by decide⟩
  · cases l <;> exact ⟨rfl, rfl, rfl, rfl⟩

theorem witness_TablesAndManagementStayLawful :
    (oneRoute .idle).FieldPositionsLawful ∧ (withCommand State.reset).SettingsLawful
      ∧ (withCommand State.reset).ManagementLawful := by
  refine ⟨witness_positions _, ⟨fun l => ?_, rfl, rfl, rfl⟩, by decide, by decide, fun h => absurd rfl h, by decide⟩
  cases l <;> decide

theorem witness_FreezeStaysLawful :
    (withCommand State.reset).FrozenQueuesClean ∧ (withCommand State.reset).WindowTimerLawful := by
  refine ⟨fun h => ?_, ?_⟩
  · rcases h with h | h <;> cases h
  · simp [State.WindowTimerLawful, withCommand, State.reset, FreezeControl.afterReset]

theorem witness_RouteStatesStayLawful :
    (oneRoute .cyclic).AnalogRoutesBounded ∧ (oneRoute .cyclic).SettledMarksRight := by
  refine ⟨witness_bounded _, fun id => ?_⟩
  rw [oneRoute_route]
  split
  · exact ⟨fun _ => ⟨rfl, rfl⟩, fun _ => rfl⟩
  · exact ⟨fun h => absurd h (by decide), fun h => absurd h.1 (by decide)⟩

theorem witness_CuesAndBatchStayLawful :
    (withCommand State.reset).BatchLawful ∧ (withCommand State.reset).CueTableLawful := by
  have h : ∀ c, (withCommand State.reset).cue c = CueEntry.afterReset := reset_cue
  refine ⟨⟨fun c hp => ?_, ?_, fun ho => ?_⟩, fun c => ?_⟩
  · rw [h] at hp; exact absurd rfl hp
  · exact ⟨fun ho => (by cases ho), fun ht => absurd rfl ht⟩
  · cases ho
  · rw [h]
    exact ⟨fun _ => rfl, fun _ => rfl, fun _ => rfl, by decide, by decide⟩

theorem witness_FramesStayLawful : (withCommand State.reset).FramesLawful := by
  intro l
  refine ⟨fun t => ?_, fun r hr => ?_, fun k hk => ?_, fun x hx => ?_⟩
  · have : ((withCommand State.reset).port l).template t = Template.afterReset := by
      cases l <;> simp [withCommand, State.port, State.reset, portsAfterReset, PerLink.get, Port.afterReset, Port.template]
    rw [this]; decide
  · cases l <;> cases hr
  · cases l <;> cases hk
  · cases l <;> cases hx

theorem witness_TheLimitLockHolds :
    let s := withCommand (armed.modManagement fun m => { m with limitLock := true, boundary := 1 })
    s.management.limitLock = true ∧ (∃ t, step s = .next t) ∧ s.management.protects 0 = true
      ∧ ∀ r1 r0 rest, s.pending ≠ .powerOnReset r1 r0 :: rest := by
  refine ⟨by decide +kernel, front_next _ rfl, by decide +kernel, fun r1 r0 rest h => ?_⟩
  cases h

end Sys2Proof.Machine.Tests
end

/-! PROOFS. The cue table through a millisecond tick (chapter 1): what the tick makes of one entry, what the tick's
other parts leave of the table, and the sum of the two for every order of the parts. -/

namespace Sys2Proof.Machine

/-! ### The two tests of R8 -/

theorem CueEntry.testFresh_of_reached {e : CueEntry} (h : e.state = .live)
    (hf : e.config.freshLimit.toNat ≤ e.age) : e.testFresh = { e with state := .held } := if_pos ⟨h, hf⟩

theorem CueEntry.testFresh_of_below {e : CueEntry} (hf : e.age < e.config.freshLimit.toNat) : e.testFresh = e :=
  if_neg fun h => Nat.not_le.mpr hf h.2

theorem CueEntry.testFresh_of_not_live {e : CueEntry} (h : e.state ≠ .live) : e.testFresh = e :=
  if_neg fun k => h k.1

theorem CueEntry.testHold_of_reached {e : CueEntry} (h : e.state = .held)
    (hs : e.config.freshLimit.toNat + e.config.holdLimit.toNat ≤ e.age) : e.testHold = e.enterFading := if_pos ⟨h, hs⟩

theorem CueEntry.testHold_of_below {e : CueEntry}
    (hs : e.age < e.config.freshLimit.toNat + e.config.holdLimit.toNat) : e.testHold = e :=
  if_neg fun h => Nat.not_le.mpr hs h.2

theorem CueEntry.testHold_of_not_held {e : CueEntry} (h : e.state ≠ .held) : e.testHold = e :=
  if_neg fun k => h k.1

/-! ### Entry to FADING, and the fade -/

theorem CueEntry.enterFading_rests {e : CueEntry}
    (h : e.config.cls = .switch ∨ e.value.toInt = e.config.neutral.toInt) : e.enterFading = e.rest := by
  unfold CueEntry.enterFading
  split
  · rfl
  · next hc => exact if_pos (BitVec.toInt_inj.mp (h.resolve_left (by simp [hc])))

theorem CueEntry.enterFading_stays {e : CueEntry} (hc : e.config.cls = .analog)
    (h : e.value.toInt ≠ e.config.neutral.toInt) : e.enterFading = { e with state := .fading } := by
  have hv : e.value ≠ e.config.neutral := fun k => h (congrArg BitVec.toInt k)
  simp [CueEntry.enterFading, hc, hv]

theorem fadeStepped_above {x n : Int} {step : Nat} (h : n < x - step) : fadeStepped x n step = some (x - step) := by
  unfold fadeStepped
  rw [if_pos (by omega), if_neg (by omega)]

theorem fadeStepped_below {x n : Int} {step : Nat} (h : x + step < n) : fadeStepped x n step = some (x + step) := by
  unfold fadeStepped
  rw [if_neg (by omega), if_neg (by omega)]

theorem fadeStepped_lands {x n : Int} {step : Nat} (hd : x - step ≤ n) (hu : n ≤ x + step) :
    fadeStepped x n step = none := by
  unfold fadeStepped
  rw [if_pos hd, if_pos hu, ite_self]

theorem CueEntry.fade_moves {e : CueEntry} {v : Int}
    (h : fadeStepped e.value.toInt e.config.neutral.toInt e.config.fadeStep.toNat = some v) :
    e.fade = { e with value := BitVec.ofInt 16 v } := by simp [CueEntry.fade, h]

theorem CueEntry.fade_rests {e : CueEntry}
    (h : fadeStepped e.value.toInt e.config.neutral.toInt e.config.fadeStep.toNat = none) : e.fade = e.rest := by
  simp [CueEntry.fade, h]

/-- A value between two signed words is a signed word. -/
theorem toInt_ofInt_of_between {x n : Word} {v : Int} (h : x.toInt ≤ v ∧ v ≤ n.toInt ∨ n.toInt ≤ v ∧ v ≤ x.toInt) :
    (BitVec.ofInt 16 v).toInt = v := by
  have hxl := x.le_toInt
  have hxu := x.toInt_lt
  have hnl := n.le_toInt
  have hnu := n.toInt_lt
  exact BitVec.toInt_ofInt_eq_self (by decide) (by omega) (by omega)

/-! ### The tick of one entry, by its state -/

theorem CueEntry.tick_of_empty {e : CueEntry} (h : e.state = .empty) : e.tick = e := by
  simp [CueEntry.tick, h]

theorem CueEntry.tick_of_rested {e : CueEntry} (h : e.state = .rested) : e.tick = e.aged := by
  simp [CueEntry.tick, h]

theorem CueEntry.tick_of_live_or_held {e : CueEntry} (h : e.state = .live ∨ e.state = .held) :
    e.tick = e.aged.testFresh.testHold := by
  rcases h with h | h <;> simp [CueEntry.tick, h]

theorem CueEntry.tick_of_fading {e : CueEntry} (h : e.state = .fading) (hc : e.config.cls = .analog) :
    e.tick = e.aged.fade := by
  simp [CueEntry.tick, h, hc]

theorem CueEntry.tick_stays_live {e : CueEntry} (h : e.state = .live) (hf : e.aged.age < e.config.freshLimit.toNat) :
    e.tick.state = .live ∧ e.tick.value = e.value := by
  have hl : e.aged.state ≠ .held := by simp [CueEntry.aged, h]
  rw [CueEntry.tick_of_live_or_held (.inl h), CueEntry.testFresh_of_below hf, CueEntry.testHold_of_not_held hl]
  exact ⟨h, rfl⟩

/-- After the first test of R8 a HELD entry, and a LIVE one whose age has reached its fresh limit, is HELD. -/
theorem CueEntry.testFresh_holds {e : CueEntry} (h : e.state = .live ∨ e.state = .held)
    (hf : e.state = .live → e.config.freshLimit.toNat ≤ e.age) : e.testFresh = { e with state := .held } := by
  rcases h with h | h
  · exact CueEntry.testFresh_of_reached h (hf h)
  · rw [CueEntry.testFresh_of_not_live (by simp [h]), ← h]

/-- A LIVE or HELD entry past its fresh limit comes to the second test HELD, in the same tick (R8). -/
theorem CueEntry.tick_past_fresh {e : CueEntry} (h : e.state = .live ∨ e.state = .held)
    (hf : e.state = .live → e.config.freshLimit.toNat ≤ e.aged.age) :
    e.tick = ({ e.aged with state := .held } : CueEntry).testHold := by
  rw [CueEntry.tick_of_live_or_held h, CueEntry.testFresh_holds (e := e.aged) h hf]

theorem CueEntry.tick_holds {e : CueEntry} (h : e.state = .live ∨ e.state = .held)
    (hf : e.state = .live → e.config.freshLimit.toNat ≤ e.aged.age)
    (hs : e.aged.age < e.config.freshLimit.toNat + e.config.holdLimit.toNat) :
    e.tick.state = .held ∧ e.tick.value = e.value := by
  rw [(CueEntry.tick_past_fresh h hf).trans (CueEntry.testHold_of_below hs)]
  exact ⟨rfl, rfl⟩

theorem CueEntry.tick_of_stale {e : CueEntry} (h : e.state = .live ∨ e.state = .held)
    (hs : e.config.freshLimit.toNat + e.config.holdLimit.toNat ≤ e.aged.age) :
    e.tick = ({ e.aged with state := .held } : CueEntry).enterFading :=
  (CueEntry.tick_past_fresh h fun _ => (Nat.le_add_right _ _).trans hs).trans (CueEntry.testHold_of_reached rfl hs)

theorem CueEntry.tick_rests {e : CueEntry} (h : e.state = .live ∨ e.state = .held)
    (hs : e.config.freshLimit.toNat + e.config.holdLimit.toNat ≤ e.aged.age)
    (hv : e.config.cls = .switch ∨ e.value.toInt = e.config.neutral.toInt) :
    e.tick.state = .rested ∧ e.tick.value = e.config.neutral := by
  rw [(CueEntry.tick_of_stale h hs).trans (CueEntry.enterFading_rests hv)]
  exact ⟨rfl, rfl⟩

theorem CueEntry.tick_starts_fade {e : CueEntry} (h : e.state = .live ∨ e.state = .held)
    (hs : e.config.freshLimit.toNat + e.config.holdLimit.toNat ≤ e.aged.age) (hc : e.config.cls = .analog)
    (hv : e.value.toInt ≠ e.config.neutral.toInt) : e.tick.state = .fading ∧ e.tick.value = e.value := by
  rw [(CueEntry.tick_of_stale h hs).trans (CueEntry.enterFading_stays hc hv)]
  exact ⟨rfl, rfl⟩

theorem CueEntry.tick_fades_down {e : CueEntry} (h : e.state = .fading) (hc : e.config.cls = .analog)
    (hn : e.config.neutral.toInt < e.value.toInt - e.config.fadeStep.toNat) :
    e.tick.state = .fading ∧ e.tick.value.toInt = e.value.toInt - e.config.fadeStep.toNat := by
  rw [CueEntry.tick_of_fading h hc, CueEntry.fade_moves (e := e.aged) (fadeStepped_above hn)]
  exact ⟨h, toInt_ofInt_of_between (.inr ⟨hn.le, Int.sub_le_self _ (Int.natCast_nonneg _)⟩)⟩

theorem CueEntry.tick_fades_up {e : CueEntry} (h : e.state = .fading) (hc : e.config.cls = .analog)
    (hn : e.value.toInt + e.config.fadeStep.toNat < e.config.neutral.toInt) :
    e.tick.state = .fading ∧ e.tick.value.toInt = e.value.toInt + e.config.fadeStep.toNat := by
  rw [CueEntry.tick_of_fading h hc, CueEntry.fade_moves (e := e.aged) (fadeStepped_below hn)]
  exact ⟨h, toInt_ofInt_of_between (.inl ⟨Int.le_add_of_nonneg_right (Int.natCast_nonneg _), hn.le⟩)⟩

theorem CueEntry.tick_fade_lands {e : CueEntry} (h : e.state = .fading) (hc : e.config.cls = .analog)
    (hd : e.value.toInt - e.config.fadeStep.toNat ≤ e.config.neutral.toInt)
    (hu : e.config.neutral.toInt ≤ e.value.toInt + e.config.fadeStep.toNat) :
    e.tick.state = .rested ∧ e.tick.value = e.config.neutral := by
  rw [CueEntry.tick_of_fading h hc, CueEntry.fade_rests (e := e.aged) (fadeStepped_lands hd hu)]
  exact ⟨rfl, rfl⟩

/-! ### What a tick of one entry leaves -/

theorem CueEntry.testFresh_eq (e : CueEntry) : e.testFresh = { e with state := e.testFresh.state } := by
  unfold CueEntry.testFresh
  split <;> rfl

theorem CueEntry.enterFading_eq (e : CueEntry) :
    e.enterFading = { e with value := e.enterFading.value, state := e.enterFading.state } := by
  unfold CueEntry.enterFading
  split
  · rfl
  · split <;> rfl

theorem CueEntry.testHold_eq (e : CueEntry) :
    e.testHold = { e with value := e.testHold.value, state := e.testHold.state } := by
  unfold CueEntry.testHold
  split
  · exact e.enterFading_eq
  · rfl

theorem CueEntry.fade_eq (e : CueEntry) : e.fade = { e with value := e.fade.value, state := e.fade.state } := by
  unfold CueEntry.fade
  split <;> rfl

/-- A tick changes the value, the age and the state of an entry, and ages every entry but an EMPTY one (R7). -/
theorem CueEntry.tick_eq (e : CueEntry) : e.tick = { e with
    value := e.tick.value, age := if e.state = .empty then e.age else e.aged.age, state := e.tick.state } := by
  have tested : e.aged.testFresh.testHold = { e with
      value := e.aged.testFresh.testHold.value, age := e.aged.age, state := e.aged.testFresh.testHold.state } := by
    rw [CueEntry.testHold_eq, CueEntry.testFresh_eq]
    rfl
  cases h : e.state with
  | empty => rw [CueEntry.tick_of_empty h]; simp
  | live => rw [CueEntry.tick_of_live_or_held (.inl h)]; exact tested
  | held => rw [CueEntry.tick_of_live_or_held (.inr h)]; exact tested
  | fading =>
    cases hc : e.config.cls with
    | analog => rw [CueEntry.tick_of_fading h hc, CueEntry.fade_eq]; simp [CueEntry.aged]
    | switch => simp [CueEntry.tick, h, hc, CueEntry.aged]
  | rested => rw [CueEntry.tick_of_rested h]; simp [CueEntry.aged]

@[simp] theorem CueEntry.tick_config (e : CueEntry) : e.tick.config = e.config := by rw [CueEntry.tick_eq]
@[simp] theorem CueEntry.tick_override (e : CueEntry) : e.tick.override = e.override := by rw [CueEntry.tick_eq]
@[simp] theorem CueEntry.tick_previous (e : CueEntry) : e.tick.previous = e.previous := by rw [CueEntry.tick_eq]
@[simp] theorem CueEntry.tick_stepTag (e : CueEntry) : e.tick.stepTag = e.stepTag := by rw [CueEntry.tick_eq]
@[simp] theorem CueEntry.tick_pending (e : CueEntry) : e.tick.pending = e.pending := by rw [CueEntry.tick_eq]

theorem CueEntry.tick_age (e : CueEntry) : e.tick.age = if e.state = .empty then e.age else e.aged.age := by
  rw [CueEntry.tick_eq]

/-! ### A tick does not look at the pending value -/

/-- An entry whose pending value is dropped. -/
def CueEntry.dropPending (e : CueEntry) : CueEntry := { e with pending := none }

theorem State.abandonBatch_cue_dropPending (s : State) (c : CueId) :
    s.abandonBatch.cue c = (s.cue c).dropPending := s.abandonBatch_cue c

theorem CueEntry.testFresh_dropPending (e : CueEntry) : e.dropPending.testFresh = e.testFresh.dropPending := by
  unfold CueEntry.testFresh
  rw [apply_ite CueEntry.dropPending]
  rfl

theorem CueEntry.enterFading_dropPending (e : CueEntry) : e.dropPending.enterFading = e.enterFading.dropPending := by
  by_cases h : e.config.cls = .switch ∨ e.value.toInt = e.config.neutral.toInt
  · rw [CueEntry.enterFading_rests h, CueEntry.enterFading_rests (e := e.dropPending) h]
    rfl
  · obtain ⟨hs, hv⟩ := not_or.mp h
    have hc : e.config.cls = .analog := by
      cases hc : e.config.cls with
      | analog => rfl
      | switch => exact absurd hc hs
    rw [CueEntry.enterFading_stays hc hv, CueEntry.enterFading_stays (e := e.dropPending) hc hv]
    rfl

theorem CueEntry.testHold_dropPending (e : CueEntry) : e.dropPending.testHold = e.testHold.dropPending := by
  unfold CueEntry.testHold
  rw [apply_ite CueEntry.dropPending, ← CueEntry.enterFading_dropPending]
  rfl

theorem CueEntry.fade_dropPending (e : CueEntry) : e.dropPending.fade = e.fade.dropPending := by
  cases h : fadeStepped e.value.toInt e.config.neutral.toInt e.config.fadeStep.toNat with
  | none => rw [CueEntry.fade_rests h, CueEntry.fade_rests (e := e.dropPending) h]; rfl
  | some v => rw [CueEntry.fade_moves h, CueEntry.fade_moves (e := e.dropPending) h]; rfl

theorem CueEntry.aged_dropPending (e : CueEntry) : e.dropPending.aged = e.aged.dropPending := rfl

theorem CueEntry.tick_dropPending (e : CueEntry) : e.dropPending.tick = e.tick.dropPending := by
  have tested (h : e.state = .live ∨ e.state = .held) : e.dropPending.tick = e.tick.dropPending := by
    rw [CueEntry.tick_of_live_or_held h, CueEntry.tick_of_live_or_held (e := e.dropPending) h,
      CueEntry.aged_dropPending, CueEntry.testFresh_dropPending, CueEntry.testHold_dropPending]
  cases h : e.state with
  | empty => rw [CueEntry.tick_of_empty h, CueEntry.tick_of_empty (e := e.dropPending) h]
  | live => exact tested (.inl h)
  | held => exact tested (.inr h)
  | fading =>
    cases hc : e.config.cls with
    | analog =>
      rw [CueEntry.tick_of_fading h hc, CueEntry.tick_of_fading (e := e.dropPending) h hc,
        CueEntry.aged_dropPending, CueEntry.fade_dropPending]
    | switch => simp [CueEntry.tick, CueEntry.dropPending, h, hc, CueEntry.aged]
  | rested => rw [CueEntry.tick_of_rested h, CueEntry.tick_of_rested (e := e.dropPending) h, CueEntry.aged_dropPending]

/-! ### The tick's other parts leave the cue table but for pending values -/

/-- Every cue entry of `t` is that of `s`, but for a pending value that an abandoned batch has dropped (R33). -/
def State.KeepsCues (s t : State) : Prop := ∀ c, t.cue c = s.cue c ∨ t.cue c = (s.cue c).dropPending

theorem State.KeepsCues.of_eq {s t : State} (h : ∀ c, t.cue c = s.cue c) : s.KeepsCues t := fun c => .inl (h c)

theorem State.KeepsCues.of_dropped {s t : State} (h : ∀ c, t.cue c = (s.cue c).dropPending) : s.KeepsCues t :=
  fun c => .inr (h c)

theorem State.KeepsCues.refl (s : State) : s.KeepsCues s := .of_eq fun _ => rfl

theorem State.KeepsCues.trans {s t u : State} (h : s.KeepsCues t) (k : t.KeepsCues u) : s.KeepsCues u := by
  intro c
  rcases k c with hk | hk <;> rcases h c with hh | hh <;> rw [hk, hh]
  · exact .inl rfl
  · exact .inr rfl
  · exact .inr rfl
  · exact .inr rfl

theorem State.KeepsCues.mapCues_tick {s t : State} (h : s.KeepsCues t) :
    (s.mapCues CueEntry.tick).KeepsCues (t.mapCues CueEntry.tick) := by
  intro c
  rw [State.mapCues_cue, State.mapCues_cue]
  rcases h c with hc | hc
  · exact .inl (congrArg _ hc)
  · exact .inr (by rw [hc, CueEntry.tick_dropPending])

theorem State.tearBatch_keepsCues (s : State) : s.KeepsCues s.tearBatch := by
  unfold State.tearBatch
  split
  · exact .of_dropped s.abandonBatch_cue_dropPending
  · exact .refl s

theorem State.testBatchWindow_keepsCues (s : State) : s.KeepsCues s.testBatchWindow := by
  unfold State.testBatchWindow
  split
  · split
    · exact .of_dropped s.abandonBatch_cue_dropPending
    · exact .refl s
  · exact .refl s

theorem State.tickBatch_keepsCues (s : State) : s.KeepsCues s.tickBatch := by
  unfold State.tickBatch
  split
  · exact State.testBatchWindow_keepsCues _
  · exact .refl s

@[simp] theorem State.testFreezeWindow_cue (s : State) (c : CueId) : s.testFreezeWindow.cue c = s.cue c := by
  unfold State.testFreezeWindow
  split
  · split <;> rfl
  · rfl

@[simp] theorem State.testResumeWindow_cue (s : State) (c : CueId) : s.testResumeWindow.cue c = s.cue c := by
  unfold State.testResumeWindow
  split
  · split <;> rfl
  · rfl

@[simp] theorem State.tickWindow_cue (s : State) (c : CueId) : s.tickWindow.cue c = s.cue c := by
  cases h : s.freeze.state with
  | run => simp [State.tickWindow, h]
  | frozen => simp [State.tickWindow, h]
  | freezing => simp only [State.tickWindow, h]; exact State.testFreezeWindow_cue _ c
  | resuming => simp only [State.tickWindow, h]; exact State.testResumeWindow_cue _ c

@[simp] theorem State.enterRunning_cue (s : State) (l : LinkId) (c : CueId) : (s.enterRunning l).cue c = s.cue c := by
  unfold State.enterRunning
  dsimp only
  split
  · exact (State.openNext_effect _ l).cue c
  · rfl

theorem State.leaveFor_keepsCues (s : State) (l : LinkId) (st : LinkState) : s.KeepsCues (s.leaveFor l st) := by
  unfold State.leaveFor
  dsimp only
  split
  · refine State.KeepsCues.trans ?_ (.of_eq (State.reevaluate_cue _))
    split
    · exact State.tearBatch_keepsCues (s.modPort l _)
    · exact .refl s
  · exact .refl s

theorem State.tickStarting_keepsCues (s : State) (l : LinkId) : s.KeepsCues (s.tickStarting l) := by
  unfold State.tickStarting
  dsimp only
  split
  · exact .of_eq fun c => State.enterRunning_cue _ l c
  · split
    · exact State.leaveFor_keepsCues (s.modPort l _) l .down
    · exact .refl s

theorem State.tickSilence_keepsCues (s : State) (l : LinkId) : s.KeepsCues (s.tickSilence l) := by
  unfold State.tickSilence
  dsimp only
  split
  · exact State.leaveFor_keepsCues (s.modPort l _) l .down
  · exact .refl s

theorem State.tickDown_keepsCues (s : State) (l : LinkId) : s.KeepsCues (s.tickDown l) := by
  unfold State.tickDown
  dsimp only
  split
  · exact State.leaveFor_keepsCues (s.modPort l _) l .starting
  · exact .refl s

theorem State.tickPort_keepsCues (s : State) (l : LinkId) : s.KeepsCues (s.tickPort l) := by
  cases h : (s.port l).state with
  | off => simpa [State.tickPort, h] using State.KeepsCues.refl s
  | starting => simpa [State.tickPort, h] using s.tickStarting_keepsCues l
  | running => simpa [State.tickPort, h] using s.tickSilence_keepsCues l
  | halted => simpa [State.tickPort, h] using s.tickSilence_keepsCues l
  | down => simpa [State.tickPort, h] using s.tickDown_keepsCues l

theorem State.tickPart_keepsCues (s : State) {part : TickPart} (h : part ≠ .cues) : s.KeepsCues (s.tickPart part) := by
  cases part with
  | cues => exact absurd rfl h
  | batchTimer => exact s.tickBatch_keepsCues
  | windowTimer => exact .of_eq s.tickWindow_cue
  | port l => exact s.tickPort_keepsCues l

theorem State.tickParts_keepCues {parts : List TickPart} (h : .cues ∉ parts) (s : State) :
    s.KeepsCues (parts.foldl State.tickPart s) := by
  induction parts generalizing s with
  | nil => exact .refl s
  | cons part rest ih =>
    obtain ⟨hp, hr⟩ := not_or.mp (mt List.mem_cons.mpr h)
    exact (s.tickPart_keepsCues (Ne.symm hp)).trans (ih hr _)

/-! ### The parts of a tick, each once -/

theorem nodup_eraseDups {α : Type} [DecidableEq α] : ∀ l : List α, l.eraseDups.Nodup
  | [] => by simp
  | a :: l => by
    rw [List.eraseDups_cons, List.nodup_cons]
    exact ⟨by simp [List.mem_eraseDups], nodup_eraseDups _⟩
termination_by l => l.length
decreasing_by exact Nat.lt_succ_of_le (List.length_filter_le _ l)

/-- The cues' part of a tick comes exactly once, whatever the order that the sender gives. -/
theorem tickSequence_split (order : List TickPart) :
    ∃ before after, tickSequence order = before ++ .cues :: after ∧ .cues ∉ before ∧ .cues ∉ after := by
  have hmem : .cues ∈ tickSequence order :=
    List.mem_eraseDups.mpr (List.mem_append_right order (by decide))
  obtain ⟨before, after, h⟩ := List.append_of_mem hmem
  have hnodup : (before ++ .cues :: after).Nodup := h ▸ nodup_eraseDups _
  have hnot := (List.nodup_cons.mp (List.nodup_middle.mp hnodup)).1
  exact ⟨before, after, h, fun k => hnot (List.mem_append_left _ k), fun k => hnot (List.mem_append_right _ k)⟩

/-- Whatever the order of its parts, a tick makes of every cue what `CueEntry.tick` makes of it, but for a pending value
that an abandoned batch has dropped. -/
theorem tickSequence_keepsCues (order : List TickPart) (s : State) :
    (s.mapCues CueEntry.tick).KeepsCues ((tickSequence order).foldl State.tickPart s) := by
  obtain ⟨before, after, h, hb, ha⟩ := tickSequence_split order
  rw [h, List.foldl_append, List.foldl_cons]
  exact (State.tickParts_keepCues hb s).mapCues_tick.trans (State.tickParts_keepCues ha _)

theorem exec_millisecondTick (order : List TickPart) (s : State) :
    exec (.millisecondTick order) s = .next ((tickSequence order).foldl State.tickPart s.startTick) := rfl

/-- What a tick shows of every cue: its entry after the tick of that entry alone, with its pending value kept or
dropped. -/
theorem millisecondTick_cue (order : List TickPart) (s : State) :
    ∃ t, exec (.millisecondTick order) s = .next t
      ∧ ∀ c, ∃ p, (p = (s.cue c).pending ∨ p = none) ∧ t.cue c = { (s.cue c).tick with pending := p } := by
  refine ⟨_, exec_millisecondTick order s, fun c => ?_⟩
  have hk := tickSequence_keepsCues order s.startTick c
  rw [State.mapCues_cue, State.startTick_cue] at hk
  rcases hk with hk | hk
  · exact ⟨_, .inl rfl, by rw [hk, ← CueEntry.tick_pending]⟩
  · exact ⟨none, .inr rfl, hk⟩

/-- Settles O6: the cues' part of the tick comes once among parts that leave the table but for pending values, and each
clause is the tick of one entry in one of its states. -/
theorem tickAgesAndFadesEveryCue : Obligations.TickAgesAndFadesEveryCue := by
  intro order s
  obtain ⟨t, ht, hcue⟩ := millisecondTick_cue order s
  refine ⟨t, ht, fun c => ?_⟩
  obtain ⟨p, hp, hc⟩ := hcue c
  rw [hc]
  generalize s.cue c = e at hp
  have hage (h : e.state ≠ .empty) : e.tick.age = e.aged.age := e.tick_age.trans (if_neg h)
  have hlive (h : e.state = .live) : e.tick.age = e.aged.age := hage (by simp [h])
  have hheld (h : e.state = .held) : e.tick.age = e.aged.age := hage (by simp [h])
  have hboth (h : e.state = .live ∨ e.state = .held) : e.tick.age = e.aged.age := h.elim hlive hheld
  refine ⟨e.tick_config, e.tick_override, e.tick_previous, e.tick_stepTag, hp, e.tick_age, ?empty, ?fresh, ?reached,
    ?held, ?rests, ?startsFade, fun h hc hn => CueEntry.tick_fades_down h hc hn,
    fun h hc hn => CueEntry.tick_fades_up h hc hn, fun h hc hd hu => CueEntry.tick_fade_lands h hc hd hu, ?rested⟩
  case empty => exact fun h => by rw [CueEntry.tick_of_empty h]; exact ⟨h, rfl⟩
  case fresh => exact fun h hf => CueEntry.tick_stays_live h (hlive h ▸ hf)
  case reached => exact fun h hf hs => CueEntry.tick_holds (.inl h) (fun _ => hlive h ▸ hf) (hlive h ▸ hs)
  case held => exact fun h hs => CueEntry.tick_holds (.inr h) (by simp [h]) (hheld h ▸ hs)
  case rests => exact fun h hs hv => CueEntry.tick_rests h (hboth h ▸ hs) hv
  case startsFade => exact fun h hs hc hv => CueEntry.tick_starts_fade h (hboth h ▸ hs) hc hv
  case rested => exact fun h => by rw [CueEntry.tick_of_rested h]; exact ⟨h, rfl⟩

end Sys2Proof.Machine

/-! PROOFS. The stages of the cue transform (chapter 3): rounding with a sign, the scaling of stage 2, the deadband of
stage 3, and the bytes of a field. -/

namespace Sys2Proof.Machine

/-! ### A magnitude with the sign of a number -/

theorem withSignOf_of_nonneg {p : Int} (h : 0 ≤ p) (m : Nat) : withSignOf p m = m := if_neg (Int.not_lt.mpr h)

theorem withSignOf_of_neg {p : Int} (h : p < 0) (m : Nat) : withSignOf p m = -(m : Int) := if_pos h

/-- A magnitude that is 0 where the number is 0 may also be taken with the minus sign there. -/
theorem withSignOf_of_nonpos {p : Int} {m : Nat} (h : p ≤ 0) (hm : p = 0 → m = 0) : withSignOf p m = -(m : Int) := by
  rcases h.lt_or_eq with hlt | heq
  · exact withSignOf_of_neg hlt m
  · simp [withSignOf, heq, hm heq]

@[simp] theorem withSignOf_natAbs (p : Int) (m : Nat) : (withSignOf p m).natAbs = m := by
  unfold withSignOf
  split <;> omega

@[simp] theorem withSignOf_self (p : Int) : withSignOf p p.natAbs = p := by
  unfold withSignOf
  split <;> omega

theorem withSignOf_nonneg {p : Int} (h : 0 ≤ p) (m : Nat) : 0 ≤ withSignOf p m := by
  rw [withSignOf_of_nonneg h]
  exact Int.natCast_nonneg m

theorem withSignOf_nonpos {p : Int} {m : Nat} (h : p ≤ 0) (hm : p = 0 → m = 0) : withSignOf p m ≤ 0 := by
  rw [withSignOf_of_nonpos h hm]
  omega

theorem withSignOf_neg {p : Int} {m : Nat} (hm : p = 0 → m = 0) : withSignOf (-p) m = -withSignOf p m := by
  rcases Int.le_total 0 p with h | h
  · rw [withSignOf_of_nonneg h, withSignOf_of_nonpos (Int.neg_nonpos_of_nonneg h) (hm <| Int.neg_eq_zero.mp ·)]
  · rw [withSignOf_of_nonpos h hm, withSignOf_of_nonneg (Int.neg_nonneg_of_nonpos h), Int.neg_neg]

/-- A number is as far from a magnitude taken with its sign as its own magnitude is. -/
theorem withSignOf_distance (p : Int) (k m : Nat) :
    (k * withSignOf p m - p).natAbs = ((k * m : Nat) - (p.natAbs : Int)).natAbs := by
  rw [Int.natCast_mul]
  rcases lt_or_ge p 0 with h | h
  · rw [withSignOf_of_neg h, Int.mul_neg]
    omega
  · rw [withSignOf_of_nonneg h]
    omega

/-! ### Rounding to nearest, halves up in magnitude -/

/-- Half a divisor added before the division rounds to nearest: the multiple is at most half a divisor above the number
and less than half a divisor below it. -/
theorem roundedQuotient_bounds (n : Nat) {half : Nat} (h : 0 < half) :
    2 * half * ((n + half) / (2 * half)) ≤ n + half ∧ n < 2 * half * ((n + half) / (2 * half)) + half := by
  have hle := Nat.mul_div_le (n + half) (2 * half)
  have hlt := Nat.lt_mul_div_succ (n + half) (Nat.mul_pos two_pos h)
  rw [Nat.mul_add_one] at hlt
  omega

theorem half_lt_two_pow {shift : Nat} (h : 0 < shift) : 2 ^ (shift - 1) < 2 ^ shift :=
  Nat.pow_lt_pow_right one_lt_two (Nat.sub_one_lt h.ne')

/-! ### Stage 2 -/

theorem scaleStage_zero (gain x : Int) : scaleStage gain 0 x = x * gain := if_pos rfl

theorem scaleStage_of_pos (gain x : Int) {shift : Nat} (h : 0 < shift) :
    scaleStage gain shift x = withSignOf (x * gain) (((x * gain).natAbs + 2 ^ (shift - 1)) / 2 ^ shift) :=
  if_neg h.ne'

/-- A product of 0 rounds to the magnitude 0. -/
theorem roundedMagnitude_of_zero {p : Int} {shift : Nat} (h : 0 < shift) (hp : p = 0) :
    (p.natAbs + 2 ^ (shift - 1)) / 2 ^ shift = 0 := by
  rw [hp, Int.natAbs_zero, Nat.zero_add]
  exact Nat.div_eq_of_lt (half_lt_two_pow h)

/-- R49's bound on the product of a sum or difference of two words with a gain. -/
theorem product_natAbs_le {g x : Int} (hx : x.natAbs ≤ 65536) (hg : g.natAbs ≤ 32768) :
    (x * g).natAbs ≤ 2147483648 := by
  rw [Int.natAbs_mul]
  exact Nat.mul_le_mul hx hg

theorem product_natAbs_eq_iff {g x : Int} (hx : x.natAbs ≤ 65536) (hg : g.natAbs ≤ 32768) :
    (x * g).natAbs = 2147483648 ↔ x.natAbs = 65536 ∧ g.natAbs = 32768 := by
  rw [Int.natAbs_mul]
  constructor
  · intro h
    have hx' : ¬ x.natAbs ≤ 65535 := fun k => by have := Nat.mul_le_mul k hg; omega
    have hg' : ¬ g.natAbs ≤ 32767 := fun k => by have := Nat.mul_le_mul hx k; omega
    omega
  · rintro ⟨hx, hg⟩
    rw [hx, hg]

/-- The result times the power of two is no further than half that power from the product, and at exactly half it is
the multiple away from zero (R49). -/
theorem scaleStage_nearest (g x : Int) (shift : Nat) :
    2 * (2 ^ shift * scaleStage g shift x - x * g).natAbs ≤ 2 ^ shift
      ∧ (2 * (2 ^ shift * scaleStage g shift x - x * g).natAbs = 2 ^ shift →
        (x * g).natAbs < 2 ^ shift * (scaleStage g shift x).natAbs) := by
  rcases shift.eq_zero_or_pos with rfl | h
  · simp [scaleStage_zero]
  · have hhalf : 0 < 2 ^ (shift - 1) := Nat.two_pow_pos _
    have hdist := withSignOf_distance (x * g) (2 ^ shift) (((x * g).natAbs + 2 ^ (shift - 1)) / 2 ^ shift)
    rw [Nat.cast_pow, Nat.cast_ofNat] at hdist
    rw [scaleStage_of_pos g x h, hdist, withSignOf_natAbs, ← mul_pow_sub_one h.ne' 2]
    have hbounds := roundedQuotient_bounds (x * g).natAbs hhalf
    omega

theorem scaleStage_neg_gain (g x : Int) (shift : Nat) : scaleStage (-g) shift x = -scaleStage g shift x := by
  rcases shift.eq_zero_or_pos with rfl | h
  · simp [scaleStage_zero]
  · rw [scaleStage_of_pos (-g) x h, scaleStage_of_pos g x h, Int.mul_neg, Int.natAbs_neg]
    exact withSignOf_neg (roundedMagnitude_of_zero h)

/-- With the gain at the divisor the product is a multiple of it, and nothing but that multiple is near enough. -/
theorem scaleStage_unity (x : Int) (shift : Nat) : scaleStage (2 ^ shift) shift x = x := by
  have hnear := (scaleStage_nearest (2 ^ shift) x shift).1
  rw [Int.mul_comm x, ← Int.mul_sub, Int.natAbs_mul, Int.natAbs_pow, Nat.mul_left_comm] at hnear
  have hzero : 2 * (scaleStage (2 ^ shift) shift x - x).natAbs ≤ 1 :=
    Nat.le_of_mul_le_mul_left (hnear.trans_eq (Nat.mul_one _).symm) (Nat.two_pow_pos shift)
  omega

/-- Settles O29: a positive shift gives the product's sign to a magnitude rounded by `roundedQuotient_bounds`, and the
other clauses follow from that form. -/
theorem scalingRoundsHalvesAwayFromZero : Obligations.ScalingRoundsHalvesAwayFromZero := by
  intro g x shift
  obtain ⟨hnear, htie⟩ := scaleStage_nearest g x shift
  refine ⟨fun hxl hxu hgl hgu => ?product, ?unshifted, fun h => ⟨?magnitude, fun hp => ?nonneg, fun hp => ?nonpos⟩,
    hnear, htie, scaleStage_neg_gain g x shift, ?unity⟩
  case product =>
    have hx : x.natAbs ≤ 65536 := by omega
    have hg : g.natAbs ≤ 32768 := by omega
    refine ⟨product_natAbs_le hx hg, (product_natAbs_eq_iff hx hg).trans ?_⟩
    omega
  case unshifted =>
    rintro rfl
    exact scaleStage_zero g x
  case magnitude => rw [scaleStage_of_pos g x h, withSignOf_natAbs]
  case nonneg =>
    rw [scaleStage_of_pos g x h]
    exact withSignOf_nonneg hp _
  case nonpos =>
    rw [scaleStage_of_pos g x h]
    exact withSignOf_nonpos hp (roundedMagnitude_of_zero h)
  case unity =>
    rintro rfl
    exact scaleStage_unity x shift

/-! ### Stage 3 -/

theorem deadbandStage_of_within {band : Nat} {y : Int} (h : y.natAbs ≤ band) : deadbandStage band y = 0 := if_pos h

/-- From the upper end of the band on, the band is taken off; at the end itself this is the band's own 0. -/
theorem deadbandStage_of_ge {band : Nat} {y : Int} (h : (band : Int) ≤ y) : deadbandStage band y = y - band := by
  unfold deadbandStage
  split
  · omega
  · exact if_pos (by omega)

/-- From the lower end of the band on, the band is added; at the end itself this is the band's own 0. -/
theorem deadbandStage_of_le {band : Nat} {y : Int} (h : y ≤ -(band : Int)) : deadbandStage band y = y + band := by
  unfold deadbandStage
  split
  · omega
  · exact if_neg (by omega)

/-- R50: the output rises continuously. Two neighbouring numbers lie together below, within or above the band, its ends
counted to both sides. -/
theorem deadbandStage_succ (band : Nat) (y : Int) :
    deadbandStage band (y + 1) = deadbandStage band y ∨ deadbandStage band (y + 1) = deadbandStage band y + 1 := by
  by_cases hbelow : y + 1 ≤ -(band : Int)
  · rw [deadbandStage_of_le hbelow, deadbandStage_of_le (by omega)]
    omega
  by_cases habove : (band : Int) ≤ y
  · rw [deadbandStage_of_ge habove, deadbandStage_of_ge (by omega)]
    omega
  · rw [deadbandStage_of_within (y := y + 1) (by omega), deadbandStage_of_within (y := y) (by omega)]
    exact .inl rfl

theorem deadbandStage_zero (y : Int) : deadbandStage 0 y = y := by
  rcases Int.le_total 0 y with h | h
  · simpa using deadbandStage_of_ge (band := 0) h
  · simpa using deadbandStage_of_le (band := 0) h

/-! ### The narrow field -/

theorem clampStage_of_between {lo hi y : Int} (hl : lo ≤ y) (hu : y ≤ hi) : clampStage lo hi y = y := by
  rw [clampStage, if_neg (Int.not_lt.mpr hl), if_neg (Int.not_lt.mpr hu)]

theorem clampStage_of_ge {lo hi y : Int} (h : lo ≤ hi) (hu : hi ≤ y) : clampStage lo hi y = hi := by
  rw [clampStage, if_neg (Int.not_lt.mpr (h.trans hu))]
  split <;> omega

theorem clampStage_between {lo hi : Int} (h : lo ≤ hi) (y : Int) :
    lo ≤ clampStage lo hi y ∧ clampStage lo hi y ≤ hi := by
  unfold clampStage
  split
  · omega
  · split <;> omega

theorem narrowValue_saturates {y : Int} (h : 32640 ≤ y) : narrowValue y = 127 := by
  rw [narrowValue, withSignOf_of_nonneg (by omega)]
  exact clampStage_of_ge (by decide) (by omega)

/-- Below 32640 no value of a word saturates: its rounded magnitude reaches 128 on the negative side alone. -/
theorem narrowValue_of_lt {y : Int} (hl : -32768 ≤ y) (hu : y < 32640) :
    narrowValue y = withSignOf y ((y.natAbs + 128) / 256) := by
  refine clampStage_of_between ?_ ?_ <;> unfold withSignOf <;> split <;> omega

theorem narrowValue_natAbs {y : Int} (hl : -32768 ≤ y) (hu : y < 32640) :
    (narrowValue y).natAbs = (y.natAbs + 128) / 256 := by
  rw [narrowValue_of_lt hl hu, withSignOf_natAbs]

theorem narrowValue_nonneg {y : Int} (h : 0 ≤ y) : 0 ≤ narrowValue y := by
  rcases lt_or_ge y 32640 with hu | hu
  · rw [narrowValue_of_lt (by omega) hu]
    exact withSignOf_nonneg h _
  · rw [narrowValue_saturates hu]
    decide

theorem narrowValue_nonpos {y : Int} (hl : -32768 ≤ y) (h : y ≤ 0) : narrowValue y ≤ 0 := by
  rw [narrowValue_of_lt hl (by omega)]
  exact withSignOf_nonpos h fun hy => by rw [hy]; rfl

/-- The value of an 8-bit field is a signed byte, so that its byte carries it whole. -/
theorem narrowValue_toInt_ofInt (y : Int) : (BitVec.ofInt 8 (narrowValue y)).toInt = narrowValue y := by
  obtain ⟨hl, hu⟩ : -128 ≤ narrowValue y ∧ narrowValue y ≤ 127 := clampStage_between (by decide) _
  exact BitVec.toInt_ofInt_eq_self (by decide) hl (Int.lt_add_one_of_le hu)

/-! ### A word as two bytes -/

theorem Word.hi_append (h l : Byte) : Word.hi (h ++ l) = h := BitVec.extractLsb'_append_eq_left

theorem Word.lo_append (h l : Byte) : Word.lo (h ++ l) = l := BitVec.extractLsb'_append_eq_right

theorem fieldBytes_big (h l : Byte) : fieldBytes .big (h ++ l) = [h, l] := by
  rw [fieldBytes, Word.hi_append, Word.lo_append]

theorem fieldBytes_little (h l : Byte) : fieldBytes .little (h ++ l) = [l, h] := by
  rw [fieldBytes, Word.hi_append, Word.lo_append]

theorem encodeAnalog_wide (order : ByteOrder) (w : Word) : encodeAnalog true order w = fieldBytes order w := rfl

theorem encodeAnalog_narrow (order : ByteOrder) (w : Word) :
    encodeAnalog false order w = [BitVec.ofInt 8 (narrowValue w.toInt)] := rfl

theorem encodeSwitch_wide (order : ByteOrder) (w : Word) : encodeSwitch true order w = fieldBytes order w := rfl

theorem encodeSwitch_narrow (order : ByteOrder) (w : Word) : encodeSwitch false order w = [w.lo] := rfl

/-- Settles O30: the deadband by the place of its number, the two bytes by `Word.hi_append` and `Word.lo_append`, and
the narrow value by whether it saturates. -/
theorem deadbandAndFieldEncodings : Obligations.DeadbandAndFieldEncodings := by
  refine ⟨fun band y => ?deadband, fun h l order => ?bytes, fun w order => ?narrow⟩
  case deadband =>
    exact ⟨deadbandStage_of_within, fun h => deadbandStage_of_ge h.le, fun h => deadbandStage_of_le h.le,
      deadbandStage_succ band y, deadbandStage_zero y, by decide⟩
  case bytes =>
    simp only [encodeAnalog_wide, encodeSwitch_wide, fieldBytes_big, fieldBytes_little, true_and]
    rw [encodeSwitch_narrow, Word.lo_append]
  case narrow =>
    have hl : -32768 ≤ w.toInt := w.le_toInt
    exact ⟨encodeAnalog_narrow order w, narrowValue_toInt_ofInt _, narrowValue_saturates, narrowValue_natAbs hl,
      narrowValue_nonneg, narrowValue_nonpos hl, by decide⟩

end Sys2Proof.Machine

/-! PROOFS. The slots of a link (chapter 5): which slot follows in a walk, and the state that each rule leaves behind the
opening of its slot. -/

namespace Sys2Proof.Machine

/-! ### The slot that follows in a walk -/

/-- The slot that a walk looks at first (R89). -/
def Port.firstSlot (p : Port) : Fin 6 :=
  match p.walk with
  | none => 0
  | some w => w + 1

theorem walkOrder_eq_firstSlot (p : Port) : walkOrder p.walk = (List.finRange 6).map fun j => p.firstSlot + j := by
  have h : List.finRange 6 = [0, 1, 2, 3, 4, 5] := by decide
  rw [walkOrder_eq, h]
  rfl

theorem Port.nextSlot_eq_find (p : Port) :
    p.nextSlot = (Fin.find? fun j : Fin 6 => p.plan[(p.firstSlot + j).val].length ≠ 0).map (p.firstSlot + ·) := by
  rw [Port.nextSlot, walkOrder_eq_firstSlot, List.find?_map, Fin.find?_eq_find?_finRange]
  rfl

/-- The walk's next slot is the one that follows in it (R89). -/
theorem Port.nextSlot_eq_some_iff (p : Port) (k : Fin 6) : p.nextSlot = some k ↔ FollowsInWalk p k := by
  have h : FollowsInWalk p k ↔ ∃ j : Fin 6, k = p.firstSlot + j ∧ p.plan[k.val].length ≠ 0
      ∧ ∀ i : Fin 6, i < j → p.plan[(p.firstSlot + i).val].length = 0 := Iff.rfl
  rw [h, p.nextSlot_eq_find]
  simp only [Option.map_eq_some_iff, Fin.find?_eq_some_iff, decide_eq_true_eq, decide_eq_false_iff_not, not_not]
  constructor
  · rintro ⟨j, ⟨hj, hlt⟩, rfl⟩
    exact ⟨j, rfl, hj, hlt⟩
  · rintro ⟨j, rfl, hj, hlt⟩
    exact ⟨j, ⟨hj, hlt⟩, rfl⟩

/-- A walk finds no slot exactly when every slot has length 0. -/
theorem Port.nextSlot_eq_none_iff (p : Port) : p.nextSlot = none ↔ ∀ k : Fin 6, p.plan[k.val].length = 0 := by
  rw [p.nextSlot_eq_find, Option.map_eq_none_iff, Fin.find?_eq_none_iff]
  simp only [decide_eq_false_iff_not, not_not]
  exact ⟨fun h k => by simpa using h (k - p.firstSlot), fun h j => h _⟩

theorem State.openNext_of_follows {s : State} {l : LinkId} {k : Fin 6} (h : FollowsInWalk (s.port l) k) :
    s.openNext l = s.openSlot l k := by
  rw [State.openNext, (Port.nextSlot_eq_some_iff _ k).mpr h]

theorem State.openNext_of_empty {s : State} {l : LinkId} (h : ∀ k : Fin 6, (s.port l).plan[k.val].length = 0) :
    s.openNext l = s.setPort l { s.port l with walk := none, slotTimer := none, snapshot := none } := by
  rw [State.openNext, (Port.nextSlot_eq_none_iff _).mpr h]
  rfl

/-! ### The state at a slot open -/

theorem State.timerAtOpen_eq (s : State) (p : Port) (slot : Slot) :
    s.timerAtOpen p slot =
      if p.settings.trigger = .internal then some (s.now + 5 * slot.length.toNat) else none := by
  unfold State.timerAtOpen State.afterMicroseconds
  cases p.settings.trigger <;> simp [unitsPerMicrosecond, Nat.mul_comm]

/-- A link at the open of a slot, before the slot's rule. -/
def State.atSlot (s : State) (l : LinkId) (k : Fin 6) : State := s.setPort l ((s.port l).atSlot s.now k)

@[simp] theorem State.atSlot_port (s : State) (l : LinkId) (k : Fin 6) :
    (s.atSlot l k).port l = (s.port l).atSlot s.now k := s.setPort_port_same _ _

@[simp] theorem State.atSlot_now (s : State) (l : LinkId) (k : Fin 6) : (s.atSlot l k).now = s.now := rfl

@[simp] theorem State.atSlot_batch (s : State) (l : LinkId) (k : Fin 6) : (s.atSlot l k).batch = s.batch := rfl

@[simp] theorem State.atSlot_setPort (s : State) (l : LinkId) (k : Fin 6) (p : Port) :
    (s.atSlot l k).setPort l p = s.setPort l p := s.setPort_setPort l _ _

/-- The opening of a slot leaves queues and almost-full offsets, so the summary byte stands (R132). -/
theorem State.atSlot_summary (s : State) (l : LinkId) (k : Fin 6) : (s.atSlot l k).summary = s.summary := by
  have h : ∀ j, (s.atSlot l k).pressure j = s.pressure j := by
    intro j
    simp only [State.pressure, State.level, State.atSlot, State.setPort_port]
    split
    · next hj => subst hj; rfl
    · rfl
  unfold State.summary
  rw [funext h]
  rfl

/-- A slot that opens with a frame on the line is an overrun (R99). -/
theorem State.openSlot_overrun {s : State} {l : LinkId} (k : Fin 6) (h : (s.port l).line ≠ none) :
    s.openSlot l k = s.setPort l
      { (s.port l).atSlot s.now k with flags := { (s.port l).flags with slotOverrun := true } } := by
  unfold State.openSlot
  simp only [State.timerAtOpen_eq, if_pos (Option.isSome_iff_ne_none.mpr h), State.modLinkFlags_eq,
    State.setPort_port_same, State.setPort_setPort]
  rfl

/-- A slot that opens with the line free applies its rule (R91). -/
theorem State.openSlot_free {s : State} {l : LinkId} (k : Fin 6) (h : (s.port l).line = none) :
    s.openSlot l k = (s.atSlot l k).applyRule l (s.port l).plan[k.val] (s.port l).snapshot := by
  have hn : ¬ (s.port l).line.isSome = true := by simp [h]
  unfold State.openSlot
  simp only [State.timerAtOpen_eq, if_neg hn]
  rfl

/-! ### The rules that build nothing -/

theorem validSnapshot_of_template {k : Snapshot} {t : BitVec 2} (h : k.template = t) :
    validSnapshot (some k) t = some k := by simp [validSnapshot, h]

theorem validSnapshot_eq_none_iff (snap : Option Snapshot) (t : BitVec 2) :
    validSnapshot snap t = none ↔ ∀ k, snap = some k → k.template ≠ t := by
  simp [validSnapshot, Option.filter_eq_none_iff]

theorem State.sendTail_eq (s : State) (l : LinkId) (summary : Byte) (k : Snapshot) :
    s.sendTail l summary k = s.setPort l
      (({ s.port l with eventCount := 0 } : Port).sending s.now summary 0x03 k.receiverAddress k.stepTag k.payload) := by
  simp [State.sendTail, State.send_eq, State.setEventCount, State.modPort_eq, kindTail]

theorem State.openSlot_tail {s : State} {l : LinkId} {k : Fin 6} {snap : Snapshot} (hl : (s.port l).line = none)
    (hr : (s.port l).plan[k.val].rule = .tail ∨ (s.port l).plan[k.val].rule = .tailOrEvent)
    (hs : (s.port l).snapshot = some snap) (ht : snap.template = (s.port l).plan[k.val].template) :
    s.openSlot l k = s.setPort l (({ (s.port l).atSlot s.now k with eventCount := 0 } : Port).sending s.now s.summary
      0x03 snap.receiverAddress snap.stepTag snap.payload) := by
  rw [State.openSlot_free k hl, hs]
  rcases hr with hr | hr <;>
    simp [State.applyRule, hr, validSnapshot_of_template ht, State.sendTail_eq, State.atSlot_summary]

theorem State.openSlot_orphan {s : State} {l : LinkId} {k : Fin 6} (hl : (s.port l).line = none)
    (hr : (s.port l).plan[k.val].rule = .tail)
    (hs : ∀ snap, (s.port l).snapshot = some snap → snap.template ≠ (s.port l).plan[k.val].template) :
    s.openSlot l k = s.setPort l
      { (s.port l).atSlot s.now k with flags := { (s.port l).flags with tailOrphan := true } } := by
  rw [State.openSlot_free k hl]
  simp only [State.applyRule, hr, (validSnapshot_eq_none_iff _ _).mpr hs, State.modLinkFlags_eq, State.atSlot_port,
    State.atSlot_setPort]
  rfl

theorem State.openSlot_idle {s : State} {l : LinkId} {k : Fin 6} (hl : (s.port l).line = none)
    (hr : (s.port l).plan[k.val].rule = .idle) : s.openSlot l k = s.atSlot l k := by
  rw [State.openSlot_free k hl]
  simp only [State.applyRule, hr]

/-- Settles O15: one lemma for each way such a slot opens. -/
theorem overrunIdleAndTailSlots : Obligations.OverrunIdleAndTailSlots := by
  refine ⟨fun rate => by cases rate <;> rfl, fun l k s => ⟨State.openSlot_overrun k, State.openSlot_idle, ?_, ?_⟩⟩
  · exact fun snap => State.openSlot_tail
  · exact State.openSlot_orphan

/-! ### Event slots -/

theorem State.sendableHead_eq_some_iff (s : State) (l : LinkId) (r : QueueRecord) :
    s.sendableHead l = some r ↔ (s.port l).maySend s.now r := by
  unfold State.sendableHead State.availableHead Port.maySend
  cases (s.port l).queue with
  | nil => simp
  | cons x rest =>
    simp only [List.head?_cons, Option.some.injEq, Option.ite_none_right_eq_some]
    constructor
    · rintro ⟨hc, he, rfl⟩; exact ⟨rfl, he, hc⟩
    · rintro ⟨rfl, he, hc⟩; exact ⟨hc, he, rfl⟩

theorem State.sendableHead_eq_none_iff (s : State) (l : LinkId) :
    s.sendableHead l = none ↔ ∀ r, ¬ (s.port l).maySend s.now r := by
  simp only [Option.eq_none_iff_forall_ne_some, ne_eq, State.sendableHead_eq_some_iff]

theorem State.sendEventOr_of_maySend {s : State} {l : LinkId} {r : QueueRecord} (summary : Byte) (u : State)
    (h : (s.port l).maySend s.now r) : s.sendEventOr l summary u = s.sendRecord l summary r := by
  rw [State.sendEventOr, (s.sendableHead_eq_some_iff l r).mpr h]

theorem State.sendEventOr_of_none {s : State} {l : LinkId} (summary : Byte) (u : State)
    (h : ∀ r, ¬ (s.port l).maySend s.now r) : s.sendEventOr l summary u = u := by
  rw [State.sendEventOr, (s.sendableHead_eq_none_iff l).mpr h]

/-- The opening of a slot leaves the queue, the event count and EVMAX, so it leaves what may be sent (R75, R93). -/
theorem Port.atSlot_maySend (p : Port) (now t : Time) (k : Fin 6) (r : QueueRecord) :
    (p.atSlot t k).maySend now r ↔ p.maySend now r := Iff.rfl

/-- The rule of a slot lets an event-class frame go: it is an event rule, or TAIL_OR_EVENT without its snapshot. -/
def Port.mayEvent (p : Port) (slot : Slot) : Prop :=
  slot.rule = .eventOrCyclic ∨ slot.rule = .eventOrIdle
    ∨ (slot.rule = .tailOrEvent ∧ ∀ snap, p.snapshot = some snap → snap.template ≠ slot.template)

theorem State.openSlot_event {s : State} {l : LinkId} {k : Fin 6} (hl : (s.port l).line = none)
    (hr : (s.port l).mayEvent (s.port l).plan[k.val]) : ∃ u,
      s.openSlot l k = (s.atSlot l k).sendEventOr l s.summary u
        ∧ ((s.port l).plan[k.val].rule ≠ .eventOrCyclic → u = s.atSlot l k)
        ∧ ((s.port l).plan[k.val].rule = .eventOrCyclic →
            u = (s.atSlot l k).sendCyclic l s.summary (s.port l).plan[k.val].template) := by
  rw [State.openSlot_free k hl, State.applyRule, State.atSlot_summary]
  rcases hr with hr | hr | ⟨hr, hs⟩
  · simp [hr]
  · simp [hr]
  · simp [hr, (validSnapshot_eq_none_iff _ _).mpr hs]

theorem State.openSlot_sendsRecord {s : State} {l : LinkId} {k : Fin 6} {r : QueueRecord} (hl : (s.port l).line = none)
    (hr : (s.port l).mayEvent (s.port l).plan[k.val]) (h : (s.port l).maySend s.now r) :
    s.openSlot l k = s.setPort l
      (((s.port l).atSlot s.now k).sendingRecord s.now s.summary s.batch.currentTag r) := by
  obtain ⟨u, hu, -, -⟩ := State.openSlot_event hl hr
  rw [hu, State.sendEventOr_of_maySend, State.sendRecord_eq, State.atSlot_port, State.atSlot_setPort]
  · rfl
  · rw [State.atSlot_port]; exact h

/-- Settles O16: the rules come together in `State.openSlot_event`, and the head goes exactly when it may. -/
theorem eventSlotsSendTheEligibleHead : Obligations.EventSlotsSendTheEligibleHead := by
  intro l k s p slot mayEvent
  have hnone (h : ∀ r, ¬ p.maySend s.now r) (u : State) : (s.atSlot l k).sendEventOr l s.summary u = u :=
    State.sendEventOr_of_none _ _ (by rw [State.atSlot_port]; exact h)
  refine ⟨fun r hl hm h => State.openSlot_sendsRecord hl hm h, fun hl hm h hc => ?_, fun hl h hc => ?_⟩
  · obtain ⟨u, hu, hidle, -⟩ := State.openSlot_event hl hm
    rw [hu, hnone h, hidle hc]
    rfl
  · obtain ⟨u, hu, -, hcyclic⟩ := State.openSlot_event (k := k) hl (.inl hc)
    rw [hu, hnone h, hcyclic hc]
    rfl

/-! ### Slots that build -/

/-- A build leaves the port of its link and the batch unit. -/
theorem State.buildTemplate_port (s : State) (l : LinkId) (t : BitVec 2) (k : LinkId) :
    (s.buildTemplate l t).1.port k = s.port k := by
  have h : ∀ (ps : List Nat) (u : State), (u.buildFields l t ps).1.port k = u.port k := by
    intro ps
    induction ps with
    | nil => exact fun _ => rfl
    | cons i rest ih =>
      intro u
      unfold State.buildFields
      dsimp only
      split
      · exact ih u
      · rw [ih]
        unfold State.computeField
        dsimp only
        split <;> simp [State.setRoute, State.port, State.noteClip_eq]
  exact h _ s

theorem State.buildTemplate_now (s : State) (l : LinkId) (t : BitVec 2) : (s.buildTemplate l t).1.now = s.now :=
  (s.buildTemplate_effect l t).now

theorem State.sendCyclic_eq (s : State) (l : LinkId) (summary : Byte) (t : BitVec 2) :
    s.sendCyclic l summary t = ((s.buildTemplate l t).1.setPort l
      (({ s.port l with eventCount := 0 } : Port).sending s.now summary 0x01 ((s.port l).template t).receiverAddress
        s.batch.currentTag (s.buildTemplate l t).2.flatten)).reevaluate := by
  simp [State.sendCyclic, State.send_eq, State.setEventCount, State.modPort_eq, kindCyclic, State.buildTemplate_port,
    State.buildTemplate_now]

/-- The snapshot that a HEAD slot keeps (R94). -/
def State.keptTail (s : State) (l : LinkId) (t : BitVec 2) : Snapshot where
  template := t
  payload := ((s.buildTemplate l t).2.drop ((s.port l).template t).splitAt).flatten
  receiverAddress := ((s.port l).template t).tailAddress
  stepTag := s.batch.currentTag

theorem State.sendHead_eq (s : State) (l : LinkId) (summary : Byte) (t : BitVec 2) :
    s.sendHead l summary t = ((s.buildTemplate l t).1.setPort l
      (({ s.port l with eventCount := 0, snapshot := some (s.keptTail l t) } : Port).sending s.now summary 0x02
        ((s.port l).template t).receiverAddress s.batch.currentTag
        ((s.buildTemplate l t).2.take ((s.port l).template t).splitAt).flatten)).reevaluate := by
  simp [State.sendHead, State.send_eq, State.setEventCount, State.modPort_eq, kindHead, State.buildTemplate_port,
    State.buildTemplate_now, State.keptTail]

theorem State.openSlot_cyclic {s : State} {l : LinkId} {k : Fin 6} (hl : (s.port l).line = none)
    (hr : (s.port l).plan[k.val].rule = .cyclic) :
    s.openSlot l k = (s.atSlot l k).sendCyclic l s.summary (s.port l).plan[k.val].template := by
  rw [State.openSlot_free k hl]
  simp only [State.applyRule, hr, State.atSlot_summary]

theorem State.openSlot_head {s : State} {l : LinkId} {k : Fin 6} (hl : (s.port l).line = none)
    (hr : (s.port l).plan[k.val].rule = .head) :
    s.openSlot l k = (s.atSlot l k).sendHead l s.summary (s.port l).plan[k.val].template := by
  rw [State.openSlot_free k hl]
  simp only [State.applyRule, hr, State.atSlot_summary]

theorem Template.splitAt_of_some {t : Template} {k : Byte} (h : t.split = some k) : t.splitAt = k.toNat := by
  simp [Template.splitAt, h]

/-- Settles O17: both rules are their send on the link at its slot, whose build leaves the port that the frame is put
on. -/
theorem buildSlotsSendTheirFrame : Obligations.BuildSlotsSendTheirFrame := by
  intro l k s split p slot tmpl opened built
  refine ⟨fun hl hr => ?_, fun hl hr hsplit => ?_⟩
  · rw [State.openSlot_cyclic hl hr, State.sendCyclic_eq, State.atSlot_port]
    rfl
  · rw [State.openSlot_head hl hr, State.sendHead_eq, State.keptTail, State.atSlot_port]
    have : (((s.port l).atSlot s.now k).template (s.port l).plan[k.val].template).splitAt = split.toNat :=
      Template.splitAt_of_some hsplit
    rw [this]
    rfl

/-! ### What opens a slot -/

theorem exec_slotTimerExpiry_running {s : State} {l : LinkId} {t : Time} (hr : (s.port l).state = .running)
    (ht : (s.port l).slotTimer = some t) :
    exec (.slotTimerExpiry l) s = .next ((s.reachTime t).openNext l) := by
  show execSlotTimerExpiry l s = _
  simp [execSlotTimerExpiry, ht, s.running_iff l, hr]

theorem exec_slotTimerExpiry_stopped {s : State} {l : LinkId}
    (h : (s.port l).state ≠ .running ∨ (s.port l).slotTimer = none) : exec (.slotTimerExpiry l) s = .next s := by
  show execSlotTimerExpiry l s = _
  unfold execSlotTimerExpiry
  split
  · next t ht =>
    rw [if_neg]
    rw [s.running_iff]
    exact h.resolve_right (by simp [ht])
  · rfl

theorem exec_syncEdge (l : LinkId) (s : State) : exec (.syncEdge l) s =
    .next (if l ≠ .d ∧ s.running l = true ∧ (s.port l).settings.trigger = .external then s.openNext l else s) := rfl

/-- Settles O14: an expiry and an edge open the walk's next slot, which is the one that follows in it. -/
theorem expiryOrEdgeOpensTheNextSlot : Obligations.ExpiryOrEdgeOpensTheNextSlot := by
  intro l s
  refine ⟨fun t hr ht => ?_, exec_slotTimerExpiry_stopped, fun hr ht hd => ?_, fun h => ?_⟩
  · rw [exec_slotTimerExpiry_running hr ht]
    exact ⟨fun k hk => congrArg _ (State.openNext_of_follows hk), fun h => congrArg _ (State.openNext_of_empty h)⟩
  · rw [exec_syncEdge, if_pos ⟨hd, (s.running_iff l).mpr hr, ht⟩]
    exact ⟨fun k hk => congrArg _ (State.openNext_of_follows hk), fun h => congrArg _ (State.openNext_of_empty h)⟩
  · rw [exec_syncEdge, if_neg]
    rintro ⟨hd, hr, ht⟩
    rw [s.running_iff] at hr
    rcases h with h | h | h
    · exact h hr
    · simp [ht] at h
    · exact hd h

/-- A port that has entered RUNNING, before its first slot (R102, R123, R125). -/
def Port.entered (p : Port) : Port :=
  { p with
    state := .running, receiveSeq := none, silence := 0, walk := none, slotTimer := none, eventCount := 0
    snapshot := none, line := none }

theorem State.enterRunning_eq (s : State) (l : LinkId) : s.enterRunning l =
    if (s.port l).settings.trigger = .internal then (s.setPort l (s.port l).entered).openNext l
    else s.setPort l (s.port l).entered := by
  unfold State.enterRunning
  cases (s.port l).settings.trigger <;> rfl

/-- A link that enters RUNNING and opens no slot: under the EXTERNAL trigger, or with a plan of zero lengths. -/
theorem State.enterRunning_without_slot {s : State} {l : LinkId}
    (h : (s.port l).settings.trigger = .external ∨ ∀ k : Fin 6, (s.port l).plan[k.val].length = 0) :
    s.enterRunning l = s.setPort l (s.port l).entered := by
  rw [State.enterRunning_eq]
  split
  · next hi =>
    have hz := h.resolve_left (by simp [hi])
    rw [State.openNext_of_empty (by rw [State.setPort_port_same]; exact hz), State.setPort_port_same,
      State.setPort_setPort]
    rfl
  · rfl

theorem State.enterRunning_opens {s : State} {l : LinkId} {k : Fin 6} (ht : (s.port l).settings.trigger = .internal)
    (hk : FollowsInWalk (s.port l).entered k) :
    s.enterRunning l = (s.setPort l (s.port l).entered).openSlot l k := by
  rw [State.enterRunning_eq, if_pos ht]
  exact State.openNext_of_follows (by rwa [State.setPort_port_same])

/-- Settles O11: the start-up enters RUNNING, with the first slot that the walk from its start finds, if any. -/
theorem idleFillTakesTheLinkToRunning : Obligations.IdleFillTakesTheLinkToRunning := by
  intro l s entered
  have hexec : exec (.idleFillStartUp l) s =
      .next (if (s.port l).state = .starting ∧ (s.port l).filled = true then s.enterRunning l else s) := rfl
  rw [hexec]
  refine ⟨fun hs hi hf hh => ?_, fun h => ?_⟩
  · rw [if_pos ⟨hs, (Port.filled_iff _).mpr ⟨hi, hf, hh⟩⟩]
    exact ⟨fun h => congrArg _ (State.enterRunning_without_slot h),
      fun ht k hk => congrArg _ (State.enterRunning_opens ht hk)⟩
  · rw [if_neg]
    rintro ⟨hs, hfilled⟩
    obtain ⟨hi, hf, hh⟩ := (Port.filled_iff _).mp hfilled
    simp [hs, hi, hf, hh] at h

end Sys2Proof.Machine

/-! PROOFS. Frames as bytes (R128, R132, R133): the layout of a frame's bytes, what passes its check, the CRC-8. -/

namespace Sys2Proof.Machine

/-! ### Words as two bytes -/

/-- A word is its two bytes, the high one first. -/
theorem Word.hi_append_lo (w : Word) : (w.hi ++ w.lo : Word) = w := by
  have : (w.extractLsb' 8 8 ++ w.extractLsb' 0 8 : BitVec 16) = w := by
    ext i hi
    simp only [BitVec.getElem_append, BitVec.getElem_extractLsb']
    split
    · simp [BitVec.getLsbD_eq_getElem hi]
    · rw [show 8 + (i - 8) = i by omega, BitVec.getLsbD_eq_getElem hi]
  exact this

theorem Word.toNat_eq_bytes (w : Word) : 256 * w.hi.toNat + w.lo.toNat = w.toNat := by
  have hlt := w.isLt
  simp only [Word.hi, Word.lo, BitVec.extractLsb'_toNat, Nat.shiftRight_eq_div_pow]
  omega

/-! ### The bytes of a frame -/

theorem byteAt_append_of_lt {bs : List Byte} {i : Nat} (h : i < bs.length) (cs : List Byte) :
    byteAt (bs ++ cs) i = byteAt bs i := by
  simp [byteAt, List.getD_eq_getElem?_getD, List.getElem?_append_left h]

theorem byteAt_append_length (bs cs : List Byte) (i : Nat) : byteAt (bs ++ cs) (bs.length + i) = byteAt cs i := by
  simp [byteAt, List.getD_eq_getElem?_getD, List.getElem?_append_right]

theorem byteAt_cons_succ (b : Byte) (bs : List Byte) (i : Nat) : byteAt (b :: bs) (i + 1) = byteAt bs i := rfl

theorem byteAt_cons_zero (b : Byte) (bs : List Byte) : byteAt (b :: bs) 0 = b := rfl

theorem Frame.body_length (f : Frame) : f.body.length = 7 + f.payload.length := by
  simp [Frame.body]
  omega

theorem Frame.toBytes_length (f : Frame) : f.toBytes.length = 8 + f.payload.length := by
  rw [Frame.toBytes, List.length_append, f.body_length, List.length_singleton]
  omega

/-- The seven header bytes of a frame (R132). -/
def Frame.header (f : Frame) : List Byte :=
  [f.kind, f.control, f.seq, f.stepTag.hi, f.stepTag.lo, f.summary, BitVec.ofNat 8 f.payload.length]

theorem Frame.toBytes_eq (f : Frame) : f.toBytes = f.header ++ (f.payload ++ [crc8 f.body]) := by
  rw [Frame.toBytes, Frame.body, List.append_assoc]
  rfl

theorem Frame.byteAt_header (f : Frame) {i : Nat} (h : i < 7) : byteAt f.toBytes i = byteAt f.header i := by
  rw [f.toBytes_eq]
  exact byteAt_append_of_lt h _

theorem Frame.byteAt_payload (f : Frame) {i : Nat} (h : i < f.payload.length) :
    byteAt f.toBytes (7 + i) = byteAt f.payload i := by
  rw [f.toBytes_eq]
  exact (byteAt_append_length f.header _ i).trans (byteAt_append_of_lt h _)

theorem Frame.toBytes_check (f : Frame) : byteAt f.toBytes (7 + f.payload.length) = crc8 f.body := by
  rw [Frame.toBytes, ← f.body_length]
  exact byteAt_append_length f.body _ 0

theorem Frame.toBytes_take (f : Frame) : f.toBytes.take (7 + f.payload.length) = f.body := by
  rw [Frame.toBytes, ← f.body_length, List.take_left]

theorem Frame.toBytes_lengthByte (f : Frame) (h : f.payload.length < 256) :
    (byteAt f.toBytes 6).toNat = f.payload.length := by
  rw [f.byteAt_header (by decide)]
  exact Nat.mod_eq_of_lt h

/-! ### The check of a frame -/

theorem maxPayload_le (kind : Byte) : maxPayload kind ≤ 62 := by
  unfold maxPayload
  split <;> decide

/-- What a string of bytes must be to pass its check (R128). -/
structure PassesCheck (bs : List Byte) : Prop where
  length : bs.length = 8 + (byteAt bs 6).toNat
  bound : (byteAt bs 6).toNat ≤ maxPayload (byteAt bs 0)
  check : byteAt bs (bs.length - 1) = crc8 (bs.take (bs.length - 1))
  pairs : byteAt bs 0 = kindUpdate → (byteAt bs 6).toNat % 3 = 0

/-- The fields of a string of bytes that passes its check. -/
def frameOf (bs : List Byte) : Frame where
  kind := byteAt bs 0
  control := byteAt bs 1
  seq := byteAt bs 2
  stepTag := wordAt bs 3
  summary := byteAt bs 5
  payload := (bs.take (bs.length - 1)).drop 7

theorem Frame.ofBytes_of_passes {bs : List Byte} (h : PassesCheck bs) : Frame.ofBytes bs = some (frameOf bs) :=
  if_pos ⟨h.length, h.bound, h.check, h.pairs⟩

theorem Frame.ofBytes_of_not_passes {bs : List Byte} (h : ¬ PassesCheck bs) : Frame.ofBytes bs = none :=
  if_neg fun ⟨hl, hb, hc, hp⟩ => h ⟨hl, hb, hc, hp⟩

theorem Frame.ofBytes_eq_some_iff {bs : List Byte} {f : Frame} :
    Frame.ofBytes bs = some f ↔ PassesCheck bs ∧ f = frameOf bs := by
  by_cases h : PassesCheck bs
  · simp [Frame.ofBytes_of_passes h, h, eq_comm]
  · simp [Frame.ofBytes_of_not_passes h, h]

/-- A payload that a frame of a kind may carry (R133). -/
def PayloadFits (kind : Byte) (payload : List Byte) : Prop :=
  payload.length ≤ maxPayload kind ∧ (kind = kindUpdate → payload.length % 3 = 0)

theorem Frame.passesCheck {f : Frame} (h : PayloadFits f.kind f.payload) : PassesCheck f.toBytes := by
  obtain ⟨hmax, hpairs⟩ := h
  have hlen : (byteAt f.toBytes 6).toNat = f.payload.length :=
    f.toBytes_lengthByte (by have := maxPayload_le f.kind; omega)
  have hkind : byteAt f.toBytes 0 = f.kind := f.byteAt_header (by decide)
  have hlast : f.toBytes.length - 1 = 7 + f.payload.length := by rw [f.toBytes_length]; omega
  refine ⟨?_, ?_, ?_, ?_⟩
  · rw [hlen, f.toBytes_length]
  · rwa [hlen, hkind]
  · rw [hlast, f.toBytes_check, f.toBytes_take]
  · rwa [hlen, hkind]

/-- A frame whose payload fits its kind is read back whole (R128, R133). -/
theorem Frame.ofBytes_toBytes {f : Frame} (h : PayloadFits f.kind f.payload) : Frame.ofBytes f.toBytes = some f := by
  rw [Frame.ofBytes_of_passes (Frame.passesCheck h)]
  have hlast : f.toBytes.length - 1 = 7 + f.payload.length := by rw [f.toBytes_length]; omega
  have hpayload : (f.toBytes.take (f.toBytes.length - 1)).drop 7 = f.payload := by
    rw [hlast, f.toBytes_take]
    rfl
  have htag : wordAt f.toBytes 3 = f.stepTag := by
    rw [wordAt, f.byteAt_header (by decide), f.byteAt_header (by decide)]
    exact Word.hi_append_lo f.stepTag
  rw [frameOf, hpayload, htag]
  rfl

/-- A byte string is its first bytes, one by one, and the rest. -/
theorem take_succ_eq_byteAt {bs : List Byte} {n : Nat} (h : n < bs.length) :
    bs.take (n + 1) = bs.take n ++ [byteAt bs n] := by
  rw [List.take_add_one, List.getElem?_eq_getElem h, byteAt, List.getD_eq_getElem _ _ h]
  rfl

theorem Frame.header_frameOf {bs : List Byte} (h : PassesCheck bs) :
    (frameOf bs).header = bs.take 7 := by
  have hlen := h.length
  have hpayload : (frameOf bs).payload.length = (byteAt bs 6).toNat := by
    simp only [frameOf, List.length_drop, List.length_take]
    omega
  have htake : bs.take 7 = [byteAt bs 0, byteAt bs 1, byteAt bs 2, byteAt bs 3, byteAt bs 4, byteAt bs 5, byteAt bs 6] := by
    repeat rw [take_succ_eq_byteAt (by omega)]
    rfl
  rw [Frame.header, hpayload, BitVec.ofNat_toNat, BitVec.setWidth_eq, htake]
  simp only [frameOf, wordAt, Word.hi_append, Word.lo_append]

/-- A string that passes its check is the bytes of its frame, whose payload fits its kind (R128). -/
theorem Frame.toBytes_frameOf {bs : List Byte} (h : PassesCheck bs) :
    (frameOf bs).toBytes = bs ∧ PayloadFits (frameOf bs).kind (frameOf bs).payload := by
  have hlen := h.length
  have hpayload : (frameOf bs).payload.length = (byteAt bs 6).toNat := by
    simp only [frameOf, List.length_drop, List.length_take]
    omega
  have hbody : (frameOf bs).body = bs.take (bs.length - 1) := by
    have hd : (frameOf bs).body = (frameOf bs).header ++ (frameOf bs).payload := rfl
    rw [hd, Frame.header_frameOf h, frameOf]
    have ht : bs.take 7 = (bs.take (bs.length - 1)).take 7 := by rw [List.take_take, min_eq_left (by omega)]
    rw [ht, List.take_append_drop]
  refine ⟨?_, ?_, ?_⟩
  · rw [Frame.toBytes, hbody, ← h.check, ← take_succ_eq_byteAt (by omega), List.take_of_length_le (by omega)]
  · rw [hpayload]; exact h.bound
  · rw [hpayload]; exact h.pairs

/-! ### The CRC-8 -/

theorem crc8_append_singleton (bs : List Byte) (b : Byte) : crc8 (bs ++ [b]) = crcByte (crc8 bs) b := by
  simp [crc8, List.foldl_append]

theorem crc8_append_check (bs : List Byte) : crc8 (bs ++ [crc8 bs]) = 0 := by
  rw [crc8_append_singleton, crcByte, BitVec.xor_self]
  decide

theorem Frame.ofBytes_of_wrong_check {bs : List Byte} {check : Byte} (h : check ≠ crc8 bs) :
    Frame.ofBytes (bs ++ [check]) = none := by
  refine Frame.ofBytes_of_not_passes fun hp => h ?_
  have hc := hp.check
  rwa [List.length_append, List.length_singleton, Nat.add_sub_cancel, List.take_left,
    ← Nat.add_zero bs.length, byteAt_append_length] at hc

/-- Settles O51: the layout of `Frame.toBytes` read forwards and backwards, with one lemma for each way to fail. -/
theorem framesSurviveTheirBytes : Obligations.FramesSurviveTheirBytes := by
  unfold Obligations.FramesSurviveTheirBytes
  intro most
  have hmost : most = maxPayload := rfl
  rw [hmost]
  refine ⟨fun f hm hp => Frame.ofBytes_toBytes ⟨hm, hp⟩, fun bs f h => ?read, fun bs h => ?fails,
    fun bs check h => Frame.ofBytes_of_wrong_check h, fun f => ?layout, crc8_append_check, fun bs b => ?division,
    by decide +kernel⟩
  case read =>
    obtain ⟨hp, rfl⟩ := Frame.ofBytes_eq_some_iff.mp h
    exact Frame.toBytes_frameOf hp
  case fails =>
    refine Frame.ofBytes_of_not_passes fun hp => ?_
    rcases h with h | h | ⟨h, h3⟩
    · exact h hp.length
    · exact absurd hp.bound (Nat.not_le.mpr h)
    · exact h3 (hp.pairs h)
  case layout =>
    have hat {i : Nat} (h : i < 7) : byteAt f.toBytes i = byteAt f.header i := f.byteAt_header h
    refine ⟨f.toBytes_length, hat (by decide), hat (by decide), hat (by decide), ?_, hat (by decide),
      f.toBytes_lengthByte, fun i hi => f.byteAt_payload hi, ?_⟩
    · rw [hat (by decide), hat (by decide)]
      exact Word.toNat_eq_bytes f.stepTag
    · rw [f.toBytes_check, f.toBytes_take]
  case division => exact ⟨rfl, crc8_append_singleton bs b⟩

end Sys2Proof.Machine

/-! PROOFS. What a command can change, said once: every command but the power-on reset is a run of changes of one piece
of the state each, and each change keeps the laws of Safety.lean that speak of its piece. -/

namespace Sys2Proof.Machine

/-! ### The laws of one link, one cue, one route, the management unit -/

/-- What `State.StoppedLinksQuiet` says of one link. -/
def Port.Quiet (p : Port) : Prop :=
  p.state ≠ .running → p.queue = [] ∧ p.slotTimer = none ∧ p.snapshot = none ∧ p.line = none

/-- What `State.QueuesLawful` says of one link. -/
def QueueLawful (l : LinkId) (q : List QueueRecord) : Prop :=
  q.length ≤ 16 ∧ (eventRoutesIn q).Nodup ∧ (l ≠ .d → ∀ r ∈ q, r.isReply = false)

/-- What `State.FramesLawful` says of one link. -/
def Port.FramesLawful (p : Port) : Prop :=
  (∀ t, (p.template t).lawful = true)
    ∧ (∀ r, QueueRecord.reply r ∈ p.queue → r.data.length ≤ 48)
    ∧ (∀ k, p.snapshot = some k → k.payload.length ≤ 48)
    ∧ (∀ x, p.line = some x → (Frame.ofBytes x.bytes).isSome = true)

/-- What `State.CueTableLawful` says of one entry. -/
def CueEntry.Lawful (e : CueEntry) : Prop :=
  (e.config.owner = none → e.state = .empty)
    ∧ (e.state = .empty → e.age = 0)
    ∧ (e.state = .fading → e.config.cls = .analog)
    ∧ e.age ≤ 65535
    ∧ e.config.inRange = true

/-- What `State.SettledMarksRight` says of one route. -/
def Route.SettledRight (x : Route) : Prop :=
  x.settled = true ↔ (x.record.kind = .field ∧ x.held = x.record.neutral)

/-- The held value of a route lies in its range (R52). -/
def Route.InRange (x : Route) : Prop := x.record.lo.toInt ≤ x.held.toInt ∧ x.held.toInt ≤ x.record.hi.toInt

/-- What `State.ManagementLawful` says of the management unit. -/
def Management.Lawful (m : Management) : Prop :=
  m.cursorIndex < m.cursorTable.size
    ∧ m.partialRecord.length < m.cursorTable.recordBytes
    ∧ (m.fill ≠ none → m.partialRecord = [])
    ∧ m.boundary ≤ 384

/-- FREEZING or FROZEN, in which no queue holds a cue event (R114). -/
def FreezeState.Holds (f : FreezeState) : Prop := f = .freezing ∨ f = .frozen

/-- The window timer runs in FREEZING and RESUMING alone (R105). -/
def FreezeControl.Lawful (f : FreezeControl) : Prop := f.timer ≠ none ↔ (f.state = .freezing ∨ f.state = .resuming)

/-! ### One change of each piece -/

/-- A change of one link that keeps what the laws say of it; its settings and templates stand. -/
structure State.PortChange (s : State) (l : LinkId) (p : Port) : Prop where
  settings : p.settings = (s.port l).settings
  templates : p.templates = (s.port l).templates
  quiet : (s.port l).Quiet → p.Quiet
  queue : QueueLawful l (s.port l).queue → QueueLawful l p.queue
  clean : s.freeze.state.Holds → eventRoutesIn (s.port l).queue = [] → eventRoutesIn p.queue = []
  frames : (s.port l).FramesLawful → p.FramesLawful
  count : (s.port l).settings.evMax ≤ 3 → (s.port l).eventCount ≤ 3 → p.eventCount ≤ 3
  batch : l = .d → s.batch.isOpen = true → (s.port l).state = .running → p.state = .running

/-- A change of the batch unit (R27 to R36). -/
structure State.BatchChange (s : State) (b : BatchUnit) : Prop where
  timer : (s.batch.isOpen = true ↔ s.batch.timer ≠ none) → (b.isOpen = true ↔ b.timer ≠ none)
  opens : b.isOpen = true → s.batch.isOpen = true ∨ (s.port .d).state = .running
  closes : s.batch.isOpen = true → b.isOpen = false → ∀ c, (s.cue c).pending = none

/-- A change of a cue entry that leaves its configuration (R4, R6, R7 to R10, R15, R33). -/
structure State.EntryChange (s : State) (c : CueId) (e : CueEntry) : Prop where
  config : e.config = (s.cue c).config
  pending : e.pending ≠ none →
    (s.cue c).pending ≠ none ∨ (s.batch.isOpen = true ∧ (s.cue c).config.owner = some .d)
  lawful : s.BatchLawful → (s.cue c).Lawful → e.Lawful

/-- A change of a route's state that leaves its record (R53 to R58, R65, R107). -/
structure State.RouteChange (s : State) (id : RouteId) (x : Route) : Prop where
  record : x.record = (s.route id).record
  settled : (s.route id).SettledRight → x.SettledRight
  range : x.record.kind = .field → x.record.Bounded → s.sourceClass x.record = .analog →
    (s.route id).InRange → x.InRange

/-- A record that the checks of R42 and the protected range let in at a route id. -/
structure State.RouteAllowed (s : State) (id : RouteId) (r : RouteRecord) : Prop where
  unprotected : s.management.protects id.val = false
  bounded : r.kind = .field → r.Bounded
  position : r.kind = .field → r.position.toNat < ((s.port r.link).template r.template).fields
  free : r.kind = .field → ∀ k, k ≠ id →
    (s.route k).record.fills r.link r.template r.position.toNat = false

/-- Settings that the checks of R120 let in at a link. -/
structure State.SettingsAllowed (s : State) (l : LinkId) (r : LinkSettings) : Prop where
  ranges : 1 ≤ r.evMax ∧ r.evMax ≤ 3 ∧ r.almostFull ≤ 15
  linkD : l = .d → r.trigger = .internal ∧ r.haltOnCheck = false ∧ r.rate = strappedRate s.rate1 s.rate0

/-- A change of the management unit: its laws stand, and under the limit lock the lock and the range (R150). -/
structure Management.Change (m n : Management) : Prop where
  lawful : m.Lawful → n.Lawful
  locked : m.limitLock = true → n.limitLock = true ∧ n.boundary = m.boundary ∧ n.side = m.side

/-- A change of the freeze controller; it enters FREEZING or FROZEN with no cue event in a queue alone (R78). -/
structure State.FreezeChange (s : State) (f : FreezeControl) : Prop where
  timer : s.freeze.Lawful → f.Lawful
  clean : f.state.Holds → s.freeze.state.Holds ∨ ∀ l, eventRoutesIn (s.port l).queue = []

/-- The part after a CUE record that the checks of R17 let in: the entry under its new configuration and, where its class
changes, the routes of that source started again (R18, R19, R47). -/
def State.reconfigure (s : State) (i : CueId) (c : CueConfig) : State :=
  let written := s.modCue i fun e => e.configure c
  if c.cls = (s.cue i).config.cls then written else written.mapRoutes (Route.afterClassChange i)

/-- One change of one piece of the state. -/
inductive State.Change : State → State → Prop
  | time (s : State) (now nextTick : Time) : Change s { s with now := now, nextTick := nextTick }
  | flags (s : State) (f : GlobalFlags) (id : RouteId) : Change s { s with flags := f, lastClipped := id }
  | globals (s : State) (g : GlobalSettings) : Change s { s with globals := g }
  | management (s : State) (m : Management) (h : s.management.Change m) : Change s { s with management := m }
  | freeze (s : State) (f : FreezeControl) (h : s.FreezeChange f) : Change s { s with freeze := f }
  | batch (s : State) (b : BatchUnit) (h : s.BatchChange b) : Change s { s with batch := b }
  | cues (s : State) (v : Vector CueEntry 256) (h : ∀ c, s.EntryChange c ({ s with cues := v }.cue c)) :
      Change s { s with cues := v }
  | routes (s : State) (v : Vector Route 384) (h : ∀ id, s.RouteChange id ({ s with routes := v }.route id)) :
      Change s { s with routes := v }
  | port (s : State) (l : LinkId) (p : Port) (h : s.PortChange l p) : Change s (s.setPort l p)
  | cueRecord (s : State) (i : CueId) (c : CueConfig) (h : c.inRange = true) : Change s (s.reconfigure i c)
  | routeRecord (s : State) (id : RouteId) (r : RouteRecord) (h : s.RouteAllowed id r) :
      Change s (s.setRoute id ((s.route id).rewritten r))
  | template (s : State) (l : LinkId) (t : BitVec 2) (rec : Template) (h : rec.lawful = true)
      (hp : ∀ id, s.InTemplate l t id → (s.route id).record.position.toNat < rec.fields) :
      Change s (s.modPort l fun p => p.setTemplate t rec)
  | settings (s : State) (l : LinkId) (r : LinkSettings) (h : s.SettingsAllowed l r) :
      Change s (s.modPort l fun p => { p with settings := r })
  | partReset (s : State) (h : s.management.limitLock = false) : Change s s.partReset

/-- A run of changes. -/
def State.Evolves : State → State → Prop := Relation.ReflTransGen State.Change

theorem State.Evolves.refl (s : State) : s.Evolves s := Relation.ReflTransGen.refl

theorem State.Evolves.trans {s t u : State} (h : s.Evolves t) (k : t.Evolves u) : s.Evolves u :=
  Relation.ReflTransGen.trans h k

theorem State.Evolves.of_change {s t : State} (h : s.Change t) : s.Evolves t := Relation.ReflTransGen.single h

theorem State.Evolves.of_eq {s t : State} (h : t = s) : s.Evolves t := h ▸ .refl s

/-- What every change keeps a run of changes keeps. -/
theorem State.Evolves.keeps {s t : State} (h : s.Evolves t) {P : State → Prop}
    (hP : ∀ u v : State, u.Change v → P u → P v) (hs : P s) : P t := by
  induction h with
  | refl => exact hs
  | tail _ hstep ih => exact hP _ _ hstep ih

/-! ### Changes of a link -/

/-- A link whose fields that the laws speak of stand. -/
theorem State.PortChange.of_marks {s : State} {l : LinkId} {p : Port} (hst : p.state = (s.port l).state)
    (hse : p.settings = (s.port l).settings) (hte : p.templates = (s.port l).templates)
    (hti : p.slotTimer = (s.port l).slotTimer) (hc : p.eventCount = (s.port l).eventCount)
    (hsn : p.snapshot = (s.port l).snapshot) (hli : p.line = (s.port l).line) (hq : p.queue = (s.port l).queue) :
    s.PortChange l p where
  settings := hse
  templates := hte
  quiet h hr := by rw [hq, hti, hsn, hli]; exact h (hst ▸ hr)
  queue h := hq ▸ h
  clean _ h := hq ▸ h
  frames h := by
    have ht : p.template = (s.port l).template := by funext t; simp only [Port.template, hte]
    unfold Port.FramesLawful
    rw [ht, hq, hsn, hli]
    exact h
  count _ h := hc ▸ h
  batch _ _ h := hst ▸ h

/-- A change of a link that leaves its settings and templates, puts nothing in its queue and no frame on its line, and
keeps no snapshot but the one it had. -/
theorem State.PortChange.of_less {s : State} {l : LinkId} {p : Port} (hse : p.settings = (s.port l).settings)
    (hte : p.templates = (s.port l).templates) (hquiet : (s.port l).Quiet → p.Quiet)
    (hq : p.queue.Sublist (s.port l).queue) (hc : p.eventCount = 0 ∨ p.eventCount = (s.port l).eventCount)
    (hsn : p.snapshot = none ∨ p.snapshot = (s.port l).snapshot) (hli : p.line = none ∨ p.line = (s.port l).line)
    (hb : l = .d → s.batch.isOpen = true → (s.port l).state = .running → p.state = .running) :
    s.PortChange l p where
  settings := hse
  templates := hte
  quiet := hquiet
  queue := fun ⟨hlen, hnd, hrep⟩ =>
    ⟨hq.length_le.trans hlen, (hq.filterMap _).nodup hnd, fun hl r hr => hrep hl r (hq.subset hr)⟩
  clean _ h := List.sublist_nil.mp (h ▸ hq.filterMap _)
  frames := fun ⟨ht, hrep, hsnap, hline⟩ => by
    refine ⟨fun t => ?_, fun r hr => hrep r (hq.subset hr), fun k hk => ?_, fun x hx => ?_⟩
    · simp only [Port.template, hte]; exact ht t
    · rcases hsn with h | h
      · simp [h] at hk
      · exact hsnap k (h ▸ hk)
    · rcases hli with h | h
      · simp [h] at hx
      · exact hline x (h ▸ hx)
  count _ h := by rcases hc with hc | hc <;> omega
  batch := hb

/-- A RUNNING link that puts a frame on its line, under the laws of its frames. -/
theorem State.PortChange.of_sending {s : State} {l : LinkId} {p : Port} {now : Time} {summary kind : Byte}
    {address : Bool} {tag : Word} {payload : List Byte} (hr : (s.port l).state = .running)
    (hst : p.state = (s.port l).state) (hse : p.settings = (s.port l).settings)
    (hte : p.templates = (s.port l).templates) (hq : p.queue.Sublist (s.port l).queue)
    (hc : (s.port l).settings.evMax ≤ 3 → (s.port l).eventCount ≤ 3 → p.eventCount ≤ 3)
    (hsn : (s.port l).FramesLawful → ∀ k, p.snapshot = some k → k.payload.length ≤ 48)
    (hf : (s.port l).FramesLawful → PayloadFits kind payload) :
    s.PortChange l (p.sending now summary kind address tag payload) where
  settings := hse
  templates := hte
  quiet _ h := absurd (hst.trans hr) h
  queue := fun ⟨hlen, hnd, hrep⟩ =>
    ⟨hq.length_le.trans hlen, (hq.filterMap _).nodup hnd, fun hl r hr => hrep hl r (hq.subset hr)⟩
  clean _ h := List.sublist_nil.mp (h ▸ hq.filterMap _)
  frames h := by
    obtain ⟨ht, hrep, -, -⟩ := id h
    refine ⟨fun t => ?_, fun r hr => hrep r (hq.subset hr), hsn h, fun x hx => ?_⟩
    · simp only [Port.template, Port.sending, hte]; exact ht t
    · cases Option.some.inj hx
      exact Option.isSome_iff_exists.mpr ⟨_, Frame.ofBytes_toBytes (hf h)⟩
  count := hc
  batch _ _ h := hst.trans h

theorem State.PortChange.evolves {s : State} {l : LinkId} {p : Port} (h : s.PortChange l p) :
    s.Evolves (s.setPort l p) := .of_change (.port s l p h)

/-! ### Changes of the management unit, the flags, the time bases -/

theorem Management.Change.refl (m : Management) : m.Change m := ⟨id, fun h => ⟨h, rfl, rfl⟩⟩

theorem Management.Change.trans {m n k : Management} (h : m.Change n) (h' : n.Change k) : m.Change k where
  lawful := h'.lawful ∘ h.lawful
  locked hl := by
    obtain ⟨h1, h2, h3⟩ := h.locked hl
    obtain ⟨k1, k2, k3⟩ := h'.locked h1
    exact ⟨k1, k2.trans h2, k3.trans h3⟩

/-- The latches, the cursor mode and the lock may change with the buffer kept or emptied. -/
theorem Management.Change.of_latches {m n : Management} (ht : n.cursorTable = m.cursorTable)
    (hi : n.cursorIndex = m.cursorIndex) (hp : n.partialRecord = m.partialRecord ∨ n.partialRecord = [])
    (hf : n.fill ≠ none → m.fill ≠ none ∨ n.partialRecord = []) (hb : n.boundary = m.boundary) (hs : n.side = m.side)
    (hl : m.limitLock = true → n.limitLock = true) : m.Change n where
  lawful := fun ⟨hci, hpl, hfe, hbo⟩ => by
    have hsize : 0 < m.cursorTable.recordBytes := (Nat.zero_le _).trans_lt hpl
    refine ⟨by rwa [hi, ht], ?_, fun h => ?_, hb ▸ hbo⟩
    · rcases hp with hp | hp <;> rw [hp, ht]
      · exact hpl
      · exact hsize
    · rcases hf h with h' | h'
      · rcases hp with hp | hp
        · rw [hp]; exact hfe h'
        · exact hp
      · exact h'
  locked h := ⟨hl h, hb, hs⟩

theorem State.modManagement_evolves {s : State} {f : Management → Management} (h : s.management.Change (f s.management)) :
    s.Evolves (s.modManagement f) := .of_change (.management s _ h)

theorem State.modFlags_evolves (s : State) (f : GlobalFlags → GlobalFlags) : s.Evolves (s.modFlags f) :=
  .of_change (.flags s _ s.lastClipped)

theorem State.noteClip_evolves (s : State) (id : RouteId) (b : Bool) : s.Evolves (s.noteClip id b) := by
  rw [State.noteClip_eq]
  exact .of_change (.flags s _ _)

theorem State.reachTime_evolves (s : State) (t : Time) : s.Evolves (s.reachTime t) := .of_change (.time s _ s.nextTick)

theorem State.startTick_evolves (s : State) : s.Evolves s.startTick := .of_change (.time s _ _)

theorem State.idle_evolves (s : State) : s.Evolves s.idle := .of_change (.time s _ s.nextTick)

theorem State.modLinkFlags_evolves (s : State) (l : LinkId) (f : LinkFlags → LinkFlags) :
    s.Evolves (s.modLinkFlags l f) :=
  State.PortChange.evolves (.of_marks rfl rfl rfl rfl rfl rfl rfl rfl)

/-! ### The freeze controller -/

theorem FreezeControl.lawful_endRamp {f : FreezeState} (h : f = .frozen ∨ f = .run) :
    ({ state := f, timer := none } : FreezeControl).Lawful := by
  rcases h with rfl | rfl <;> simp [FreezeControl.Lawful]

theorem State.endRamp_evolves_frozen {s : State} (h : s.freeze.state = .freezing) : s.Evolves (s.endRamp .frozen) :=
  .of_change (.freeze s _ ⟨fun _ => FreezeControl.lawful_endRamp (.inl rfl), fun _ => .inl (.inl h)⟩)

theorem State.endRamp_evolves_run (s : State) : s.Evolves (s.endRamp .run) :=
  .of_change (.freeze s _ ⟨fun _ => FreezeControl.lawful_endRamp (.inr rfl), fun h => by rcases h with h | h <;> cases h⟩)

theorem State.reevaluate_evolves (s : State) : s.Evolves s.reevaluate := by
  unfold State.reevaluate
  split
  · next h =>
    split
    · exact State.endRamp_evolves_frozen h
    · exact .refl s
  · split
    · exact s.endRamp_evolves_run
    · exact .refl s
  · exact .refl s
  · exact .refl s

theorem State.testFreezeWindow_evolves (s : State) : s.Evolves s.testFreezeWindow := by
  unfold State.testFreezeWindow
  split
  · next h _ =>
    split
    · exact (State.endRamp_evolves_frozen h).trans (State.modFlags_evolves _ _)
    · exact .refl s
  · exact .refl s

theorem State.testResumeWindow_evolves (s : State) : s.Evolves s.testResumeWindow := by
  unfold State.testResumeWindow
  split
  · split
    · exact s.endRamp_evolves_run.trans (State.modFlags_evolves _ _)
    · exact .refl s
  · exact .refl s

theorem State.tickWindow_evolves (s : State) : s.Evolves s.tickWindow := by
  have counted : s.Evolves { s with freeze := { s.freeze with timer := s.freeze.timer.map (· + 1) } } :=
    .of_change (.freeze s _ ⟨fun h => by simpa [FreezeControl.Lawful] using h, .inl⟩)
  unfold State.tickWindow
  dsimp only
  split
  · exact counted.trans (State.testFreezeWindow_evolves _)
  · exact counted.trans (State.testResumeWindow_evolves _)
  · exact .refl s
  · exact .refl s

theorem eventRoutesIn_purgeCueEvents (q : List QueueRecord) : eventRoutesIn (purgeCueEvents q) = [] := by
  rw [eventRoutesIn, List.filterMap_eq_nil_iff]
  intro r hr
  cases r with
  | cueEvent e => simp [purgeCueEvents] at hr
  | reply m => rfl

theorem State.purgeQueue_evolves (s : State) (l : LinkId) :
    s.Evolves (s.modPort l fun p => { p with queue := purgeCueEvents p.queue }) := by
  refine State.PortChange.evolves (.of_less rfl rfl (fun h hr => ?_) List.filter_sublist (.inr rfl) (.inr rfl)
    (.inr rfl) fun _ _ h => h)
  obtain ⟨hq, ht, hs, hl⟩ := h hr
  exact ⟨by simp [hq, purgeCueEvents], ht, hs, hl⟩

theorem State.purgeQueues_evolves (s : State) : s.Evolves s.purgeQueues :=
  (((s.purgeQueue_evolves .d).trans (State.purgeQueue_evolves _ .v)).trans (State.purgeQueue_evolves _ .a)).trans
    (State.purgeQueue_evolves _ .c)

theorem State.purgeQueues_port (s : State) (l : LinkId) :
    s.purgeQueues.port l = { s.port l with queue := purgeCueEvents (s.port l).queue } := by
  cases l <;> rfl

/-- FREEZE purges the queues and enters FREEZING; in which order makes no difference (R78, R106). -/
theorem State.startFreezing_evolves (s : State) :
    s.Evolves ({ s with freeze := { state := .freezing, timer := some 0 } }).purgeQueues.reevaluate := by
  have hfreeze : s.purgeQueues.Evolves { s.purgeQueues with freeze := { state := .freezing, timer := some 0 } } :=
    .of_change (.freeze _ _ ⟨fun _ => by simp [FreezeControl.Lawful],
      fun _ => .inr fun l => by rw [State.purgeQueues_port]; exact eventRoutesIn_purgeCueEvents _⟩)
  exact (s.purgeQueues_evolves.trans hfreeze).trans (State.reevaluate_evolves _)

theorem State.enterFreezing_evolves (s : State) : s.Evolves s.enterFreezing := by
  unfold State.enterFreezing
  split
  · exact s.startFreezing_evolves
  · exact s.startFreezing_evolves
  · exact .refl s
  · exact .refl s

end Sys2Proof.Machine

/-! PROOFS. The route engine, the slots and the commit notices as runs of changes. -/

namespace Sys2Proof.Machine

/-! ### Route states -/

theorem Route.refreshSettled_settledRight (x : Route) : x.refreshSettled.SettledRight := by
  simp [Route.SettledRight, Route.refreshSettled]

theorem State.RouteChange.refl (s : State) (id : RouteId) : s.RouteChange id (s.route id) :=
  ⟨rfl, fun h => h, fun _ _ _ h => h⟩

/-- A route whose record, held value and settled mark stand. -/
theorem State.RouteChange.of_marks {s : State} {id : RouteId} {x : Route}
    (hr : x.record = (s.route id).record) (hh : x.held = (s.route id).held) (hs : x.settled = (s.route id).settled) :
    s.RouteChange id x where
  record := hr
  settled h := by simpa only [Route.SettledRight, hr, hh, hs] using h
  range _ _ _ h := by simpa only [Route.InRange, hr, hh] using h

theorem State.mapRoutes_evolves {s : State} {f : Route → Route} (h : ∀ id, s.RouteChange id (f (s.route id))) :
    s.Evolves (s.mapRoutes f) := by
  refine .of_change (.routes s _ fun id => ?_)
  have : ({ s with routes := mapEach f s.routes }).route id = f (s.route id) := s.mapRoutes_route f id
  rw [this]
  exact h id

theorem State.setRoute_evolves {s : State} {id : RouteId} {x : Route} (h : s.RouteChange id x) :
    s.Evolves (s.setRoute id x) := by
  refine .of_change (.routes s _ fun k => ?_)
  have : ({ s with routes := s.routes.set id.val x }).route k = if k = id then x else s.route k := s.setRoute_route id k x
  rw [this]
  split
  · next hk => subst hk; exact h
  · exact .refl s k

theorem State.clearConverged_evolves (s : State) : s.Evolves s.clearConverged :=
  State.mapRoutes_evolves fun _ => .of_marks rfl rfl rfl

theorem State.updatePeaks_evolves (s : State) (cues : List CueId) : s.Evolves (s.updatePeaks cues) := by
  refine State.mapRoutes_evolves fun id => ?_
  unfold State.peakUpdated
  split
  · exact .of_marks rfl rfl rfl
  · exact .refl s id

theorem State.startResuming_evolves (s : State) :
    s.Evolves ({ s with freeze := { state := .resuming, timer := some 0 } }).clearConverged.reevaluate := by
  have hfreeze : s.Evolves { s with freeze := { state := .resuming, timer := some 0 } } :=
    .of_change (.freeze s _ ⟨fun _ => by simp [FreezeControl.Lawful], fun h => by rcases h with h | h <;> cases h⟩)
  exact (hfreeze.trans (State.clearConverged_evolves _)).trans (State.reevaluate_evolves _)

theorem State.enterResuming_evolves (s : State) : s.Evolves s.enterResuming := by
  unfold State.enterResuming
  split
  · exact s.startResuming_evolves
  · exact s.startResuming_evolves
  · exact .refl s
  · exact .refl s

/-! ### A computation and a build -/

/-- The slew stage never leaves a range that holds the held value and the target (R53). -/
theorem slewStage_between {lo hi held target : Int} (limit : Nat) (hl : lo ≤ held) (hu : held ≤ hi) (tl : lo ≤ target)
    (tu : target ≤ hi) : lo ≤ slewStage limit held target ∧ slewStage limit held target ≤ hi := by
  unfold slewStage
  split
  · split <;> omega
  · exact ⟨tl, tu⟩

theorem slewTarget_between {lo hi y4 n : Int} (f : FreezeState) (yl : lo ≤ y4) (yu : y4 ≤ hi) (nl : lo ≤ n)
    (nu : n ≤ hi) : lo ≤ slewTarget f y4 n ∧ slewTarget f y4 n ≤ hi := by
  cases f
  · exact ⟨yl, yu⟩
  · exact ⟨nl, nu⟩
  · exact ⟨nl, nu⟩
  · exact ⟨yl, yu⟩

/-- The number that a computation of an ANALOG route moves its held value to (R53). -/
def Route.slewed (x : Route) (f : FreezeState) (y4 : Int) : Int :=
  slewStage (slewLimit f x.record) x.held.toInt (slewTarget f y4 x.record.neutral.toInt)

theorem Route.slewed_between {x : Route} (f : FreezeState) {y4 : Int} (hb : x.record.Bounded) (hr : x.InRange)
    (yl : x.record.lo.toInt ≤ y4) (yu : y4 ≤ x.record.hi.toInt) :
    x.record.lo.toInt ≤ x.slewed f y4 ∧ x.slewed f y4 ≤ x.record.hi.toInt := by
  obtain ⟨nl, nu, -⟩ := hb
  obtain ⟨tl, tu⟩ := slewTarget_between f yl yu nl nu
  exact slewStage_between _ hr.1 hr.2 tl tu

theorem limitedValue_between {r : RouteRecord} (h : r.Bounded) (peak : Option Word) (a b : Int) :
    r.lo.toInt ≤ limitedValue r peak a b ∧ limitedValue r peak a b ≤ r.hi.toInt :=
  clampStage_between (h.1.trans h.2.1) _

theorem Route.afterAnalog_held (x : Route) (f : FreezeState) (y4 : Int) :
    (x.afterAnalog f y4).held = BitVec.ofInt 16 (x.slewed f y4) := rfl

theorem Route.afterAnalog_held_toInt {x : Route} (f : FreezeState) {y4 : Int} (hb : x.record.Bounded) (hr : x.InRange)
    (yl : x.record.lo.toInt ≤ y4) (yu : y4 ≤ x.record.hi.toInt) : (x.afterAnalog f y4).held.toInt = x.slewed f y4 :=
  toInt_ofInt_of_between (.inl (x.slewed_between f hb hr yl yu))

theorem Route.afterAnalog_inRange {x : Route} (f : FreezeState) {y4 : Int} (hb : x.record.Bounded) (hr : x.InRange)
    (yl : x.record.lo.toInt ≤ y4) (yu : y4 ≤ x.record.hi.toInt) : (x.afterAnalog f y4).InRange := by
  unfold Route.InRange
  rw [Route.afterAnalog_held_toInt f hb hr yl yu]
  exact x.slewed_between f hb hr yl yu

theorem Route.afterAnalog_settledRight (x : Route) (f : FreezeState) (y4 : Int) : (x.afterAnalog f y4).SettledRight :=
  Route.refreshSettled_settledRight _

theorem Route.afterSwitch_settledRight (x : Route) (f : FreezeState) (v : Word) : (x.afterSwitch f v).SettledRight :=
  Route.refreshSettled_settledRight _

theorem State.computeField_evolves (s : State) (id : RouteId) : s.Evolves (s.computeField id) := by
  unfold State.computeField
  dsimp only
  split
  · next hc =>
    exact State.setRoute_evolves ⟨rfl, fun _ => Route.afterSwitch_settledRight _ _ _,
      fun _ _ ha _ => absurd (hc.symm.trans ha) (by decide)⟩
  · refine State.Evolves.trans (State.setRoute_evolves ?_) (State.noteClip_evolves _ _ _)
    refine ⟨rfl, fun _ => Route.afterAnalog_settledRight _ _ _, fun _ hb _ hr => ?_⟩
    have hy := limitedValue_between (r := (s.route id).record) hb
    exact Route.afterAnalog_inRange _ hb hr (hy _ _ _).1 (hy _ _ _).2

theorem State.buildFields_evolves (l : LinkId) (t : BitVec 2) (ps : List Nat) :
    ∀ s : State, s.Evolves (s.buildFields l t ps).1 := by
  induction ps with
  | nil => exact State.Evolves.refl
  | cons i rest ih =>
    intro s
    unfold State.buildFields
    dsimp only
    split
    · exact ih s
    · exact (s.computeField_evolves _).trans (ih _)

theorem State.buildTemplate_evolves (s : State) (l : LinkId) (t : BitVec 2) : s.Evolves (s.buildTemplate l t).1 :=
  State.buildFields_evolves l t _ s

/-- A field has at most two bytes. -/
theorem State.heldBytes_length (s : State) (id : RouteId) (wide : Bool) (order : ByteOrder) :
    (s.heldBytes id wide order).length ≤ 2 := by
  unfold State.heldBytes encodeSwitch encodeAnalog fieldBytes
  cases s.sourceClass (s.route id).record <;> cases wide <;> cases order <;> simp

theorem State.buildFields_bytes (l : LinkId) (t : BitVec 2) (ps : List Nat) :
    ∀ s : State, (s.buildFields l t ps).2.length = ps.length ∧ ∀ x ∈ (s.buildFields l t ps).2, x.length ≤ 2 := by
  induction ps with
  | nil => intro s; simp [State.buildFields]
  | cons i rest ih =>
    intro s
    unfold State.buildFields
    dsimp only
    split
    · refine ⟨congrArg _ (ih s).1, fun x hx => ?_⟩
      rcases List.mem_cons.mp hx with rfl | hx
      · unfold encodeEmpty
        split <;> simp
      · exact (ih s).2 x hx
    · refine ⟨congrArg _ (ih _).1, fun x hx => ?_⟩
      rcases List.mem_cons.mp hx with rfl | hx
      · exact State.heldBytes_length _ _ _ _
      · exact (ih _).2 x hx

theorem State.buildTemplate_length (s : State) (l : LinkId) (t : BitVec 2) :
    (s.buildTemplate l t).2.length = ((s.port l).template t).fields := by
  rw [State.buildTemplate, (State.buildFields_bytes l t _ s).1, List.length_range]

theorem flatten_length_le {xs : List (List Byte)} (h : ∀ x ∈ xs, x.length ≤ 2) : xs.flatten.length ≤ 2 * xs.length := by
  induction xs with
  | nil => simp
  | cons x rest ih =>
    have hx := h x List.mem_cons_self
    have hrest := ih fun y hy => h y (List.mem_cons_of_mem x hy)
    simp only [List.flatten_cons, List.length_append, List.length_cons]
    omega

/-- Fields of a lawful template, however many of them, fill 48 bytes at most (R83, R84). -/
theorem State.buildTemplate_flatten_le {s : State} {l : LinkId} (h : (s.port l).FramesLawful) (t : BitVec 2)
    {xs : List (List Byte)} (hx : xs.Sublist (s.buildTemplate l t).2) : xs.flatten.length ≤ 48 := by
  have hfields : ((s.port l).template t).fields ≤ 24 := by
    have := h.1 t
    simp only [Template.lawful, Bool.and_eq_true, decide_eq_true_eq] at this
    exact this.1
  have hlen := hx.length_le
  rw [s.buildTemplate_length l t] at hlen
  have := flatten_length_le fun x h => (State.buildFields_bytes l t _ s).2 x (hx.subset h)
  omega

/-! ### Slots -/

theorem State.sendRecord_evolves {s : State} {l : LinkId} (summary : Byte) {r : QueueRecord}
    (hr : (s.port l).state = .running) (h : (s.port l).maySend s.now r) : s.Evolves (s.sendRecord l summary r) := by
  obtain ⟨hhead, -, hcount⟩ := h
  rw [State.sendRecord_eq]
  have hmem : r ∈ (s.port l).queue := List.mem_of_head? hhead
  refine State.PortChange.evolves ?_
  cases r with
  | cueEvent e =>
    exact .of_sending hr rfl rfl rfl (List.tail_sublist _) (fun he hc => by dsimp only; omega) (fun hf => hf.2.2.1)
      fun _ => ⟨Nat.le_refl 8, by simp [kindUpdate]⟩
  | reply m =>
    refine .of_sending hr rfl rfl rfl (List.tail_sublist _) (fun he hc => by dsimp only; omega) (fun hf => hf.2.2.1)
      fun hf => ⟨?_, by simp [kindUpdate]⟩
    obtain ⟨-, hreply, -, -⟩ := hf
    have := hreply m hmem
    simp only [List.length_cons]
    exact Nat.add_le_add_right this 4

theorem State.sendCyclic_evolves {s : State} {l : LinkId} (summary : Byte) (t : BitVec 2)
    (hr : (s.port l).state = .running) : s.Evolves (s.sendCyclic l summary t) := by
  rw [State.sendCyclic_eq]
  refine ((s.buildTemplate_evolves l t).trans (State.PortChange.evolves ?_)).trans (State.reevaluate_evolves _)
  have hport := s.buildTemplate_port l t l
  refine .of_sending ?_ ?_ ?_ ?_ ?_ ?_ ?_ ?_ <;> rw [hport]
  · exact hr
  · exact fun _ _ => Nat.zero_le 3
  · exact fun hf => hf.2.2.1
  · exact fun hf => ⟨State.buildTemplate_flatten_le hf t (.refl _), by simp [kindUpdate]⟩

theorem State.sendHead_evolves {s : State} {l : LinkId} (summary : Byte) (t : BitVec 2)
    (hr : (s.port l).state = .running) : s.Evolves (s.sendHead l summary t) := by
  rw [State.sendHead_eq]
  refine ((s.buildTemplate_evolves l t).trans (State.PortChange.evolves ?_)).trans (State.reevaluate_evolves _)
  have hport := s.buildTemplate_port l t l
  refine .of_sending ?_ ?_ ?_ ?_ ?_ ?_ ?_ ?_ <;> rw [hport]
  · exact hr
  · exact fun _ _ => Nat.zero_le 3
  · intro hf k hk
    cases Option.some.inj hk
    exact State.buildTemplate_flatten_le hf t (List.drop_sublist _ _)
  · exact fun hf => ⟨State.buildTemplate_flatten_le hf t (List.take_sublist _ _), by simp [kindUpdate]⟩

theorem State.sendEventOr_evolves {s u : State} {l : LinkId} (summary : Byte) (hr : (s.port l).state = .running)
    (hu : s.Evolves u) : s.Evolves (s.sendEventOr l summary u) := by
  unfold State.sendEventOr
  split
  · next r h => exact State.sendRecord_evolves summary hr ((s.sendableHead_eq_some_iff l r).mp h)
  · exact hu

/-- A RUNNING link changes its scheduler's fields. -/
theorem State.PortChange.of_running {s : State} {l : LinkId} {p : Port} (hr : (s.port l).state = .running)
    (hst : p.state = (s.port l).state) (hse : p.settings = (s.port l).settings)
    (hte : p.templates = (s.port l).templates) (hq : p.queue = (s.port l).queue)
    (hc : p.eventCount = (s.port l).eventCount) (hsn : p.snapshot = none) (hli : p.line = (s.port l).line) :
    s.PortChange l p :=
  .of_less hse hte (fun _ h => absurd (hst.trans hr) h) (by rw [hq]) (.inr hc) (.inl hsn) (.inr hli)
    fun _ _ h => hst.trans h

theorem State.atSlot_evolves {s : State} {l : LinkId} (k : Fin 6) (hr : (s.port l).state = .running) :
    s.Evolves (s.atSlot l k) := State.PortChange.evolves (.of_running hr rfl rfl rfl rfl rfl rfl rfl)

theorem State.openSlot_evolves {s : State} {l : LinkId} (k : Fin 6) (hr : (s.port l).state = .running) :
    s.Evolves (s.openSlot l k) := by
  have hat := State.atSlot_evolves k hr
  have hr' : ((s.atSlot l k).port l).state = .running := by rw [State.atSlot_port]; exact hr
  by_cases hl : (s.port l).line = none
  swap
  · rw [State.openSlot_overrun k hl]
    exact State.PortChange.evolves (.of_running hr rfl rfl rfl rfl rfl rfl rfl)
  have tail (snap : Snapshot) (hs : (s.port l).snapshot = some snap) (now : Time) (summary : Byte) :
      s.Evolves (s.setPort l (({ (s.port l).atSlot now k with eventCount := 0 } : Port).sending now summary 0x03
        snap.receiverAddress snap.stepTag snap.payload)) := by
    refine State.PortChange.evolves (.of_sending hr rfl rfl rfl (.refl _) (fun _ _ => Nat.zero_le 3) ?_ ?_)
    · intro _ k hk
      cases hk
    · rintro ⟨-, -, hsnap, -⟩
      exact ⟨hsnap snap hs, by simp [kindUpdate]⟩
  have event (h : (s.port l).mayEvent (s.port l).plan[k.val]) : s.Evolves (s.openSlot l k) := by
    obtain ⟨u, hu, hidle, hcyclic⟩ := State.openSlot_event hl h
    rw [hu]
    refine hat.trans (State.sendEventOr_evolves _ hr' ?_)
    by_cases hc : (s.port l).plan[k.val].rule = .eventOrCyclic
    · rw [hcyclic hc]; exact State.sendCyclic_evolves _ _ hr'
    · rw [hidle hc]; exact .refl _
  cases hrule : (s.port l).plan[k.val].rule with
  | cyclic => rw [State.openSlot_cyclic hl hrule]; exact hat.trans (State.sendCyclic_evolves _ _ hr')
  | head => rw [State.openSlot_head hl hrule]; exact hat.trans (State.sendHead_evolves _ _ hr')
  | eventOrCyclic => exact event (.inl hrule)
  | eventOrIdle => exact event (.inr (.inl hrule))
  | idle => rw [State.openSlot_idle hl hrule]; exact hat
  | tail =>
    by_cases h : ∀ snap, (s.port l).snapshot = some snap → snap.template ≠ (s.port l).plan[k.val].template
    · rw [State.openSlot_orphan hl hrule h]
      exact State.PortChange.evolves (.of_running hr rfl rfl rfl rfl rfl rfl rfl)
    · push Not at h
      obtain ⟨snap, hs, ht⟩ := h
      rw [State.openSlot_tail hl (.inl hrule) hs ht]
      exact tail snap hs _ _
  | tailOrEvent =>
    by_cases h : ∀ snap, (s.port l).snapshot = some snap → snap.template ≠ (s.port l).plan[k.val].template
    · exact event (.inr (.inr ⟨hrule, h⟩))
    · push Not at h
      obtain ⟨snap, hs, ht⟩ := h
      rw [State.openSlot_tail hl (.inr hrule) hs ht]
      exact tail snap hs _ _

theorem State.openNext_evolves {s : State} {l : LinkId} (hr : (s.port l).state = .running) : s.Evolves (s.openNext l) := by
  unfold State.openNext
  split
  · exact State.openSlot_evolves _ hr
  · exact State.PortChange.evolves (.of_running hr rfl rfl rfl rfl rfl rfl rfl)

theorem State.restartWalk_evolves (s : State) (l : LinkId) : s.Evolves (s.restartWalk l) := by
  unfold State.restartWalk
  dsimp only
  split
  · next h =>
    simp only [Bool.and_eq_true] at h
    exact State.openNext_evolves ((s.running_iff l).mp h.1.1.1)
  · exact .refl s

theorem State.restartWalks_evolves (s : State) : s.Evolves s.restartWalks :=
  (((s.restartWalk_evolves .d).trans (State.restartWalk_evolves _ .v)).trans (State.restartWalk_evolves _ .a)).trans
    (State.restartWalk_evolves _ .c)

/-! ### Offers and notices -/

/-- A RUNNING link takes a queue that the laws of queues and frames allow. -/
theorem State.PortChange.of_queue {s : State} {l : LinkId} {q : List QueueRecord} (hr : (s.port l).state = .running)
    (hq : QueueLawful l (s.port l).queue → QueueLawful l q)
    (hclean : s.freeze.state.Holds → eventRoutesIn (s.port l).queue = [] → eventRoutesIn q = [])
    (hreply : ∀ r, QueueRecord.reply r ∈ q → QueueRecord.reply r ∈ (s.port l).queue ∨ r.data.length ≤ 48) :
    s.PortChange l { s.port l with queue := q } where
  settings := rfl
  templates := rfl
  quiet _ h := absurd hr h
  queue := hq
  clean := hclean
  frames := fun ⟨ht, hold, hsnap, hline⟩ => ⟨ht, fun r h => (hreply r h).elim (hold r) id, hsnap, hline⟩
  count _ h := h
  batch _ _ h := h

/-- A later firing brings a waiting record up to date in place (R73). -/
theorem QueueRecord.merged_isReply (e : CueEvent) (r : QueueRecord) : (r.merged e).isReply = r.isReply := by
  cases r with
  | cueEvent x => simp only [QueueRecord.merged]; split <;> rfl
  | reply m => rfl

theorem eventRoutesIn_map_merged (e : CueEvent) (q : List QueueRecord) :
    eventRoutesIn (q.map (QueueRecord.merged e)) = eventRoutesIn q := by
  simp only [eventRoutesIn, List.filterMap_map]
  refine List.filterMap_congr fun r _ => ?_
  cases r with
  | cueEvent x => by_cases h : x.route = e.route <;> simp [QueueRecord.merged, h]
  | reply m => rfl

theorem QueueRecord.merged_eq_reply {e : CueEvent} {r : QueueRecord} {m : Reply} (h : r.merged e = .reply m) :
    r = .reply m := by
  cases r with
  | cueEvent x => simp only [QueueRecord.merged] at h; split at h <;> cases h
  | reply x => exact h

theorem eventRoutesIn_append (q r : List QueueRecord) : eventRoutesIn (q ++ r) = eventRoutesIn q ++ eventRoutesIn r :=
  List.filterMap_append

theorem not_mem_eventRoutesIn {q : List QueueRecord} {id : RouteId} (h : ¬ q.any (QueueRecord.isEventOf id) = true) :
    id ∉ eventRoutesIn q := by
  intro hm
  obtain ⟨r, hr, hid⟩ := List.mem_filterMap.mp hm
  refine h (List.any_eq_true.mpr ⟨r, hr, ?_⟩)
  cases r with
  | cueEvent e => simpa [QueueRecord.isEventOf] using hid
  | reply m => cases hid

/-- An offer on a RUNNING link out of FREEZING and FROZEN (R66, R73). -/
theorem State.offerCueEvent_evolves {s : State} {l : LinkId} (e : CueEvent) (hr : (s.port l).state = .running)
    (hf : ¬ s.freeze.state.Holds) : s.Evolves (s.offerCueEvent l e) := by
  unfold State.offerCueEvent
  split
  · refine State.PortChange.evolves (.of_queue hr (fun ⟨hlen, hnd, hrep⟩ => ?_) (fun h => absurd h hf) fun m hm => ?_)
    · refine ⟨by rwa [List.length_map], by rwa [eventRoutesIn_map_merged], fun hl r hm => ?_⟩
      obtain ⟨x, hx, rfl⟩ := List.mem_map.mp hm
      rw [QueueRecord.merged_isReply]
      exact hrep hl x hx
    · obtain ⟨x, hx, h⟩ := List.mem_map.mp hm
      exact .inl (QueueRecord.merged_eq_reply h ▸ hx)
  · next hnone =>
    split
    · next hroom =>
      refine State.PortChange.evolves (.of_queue hr (fun ⟨_, hnd, hrep⟩ => ?_) (fun h => absurd h hf) fun m hm => ?_)
      · refine ⟨by rw [List.length_append]; exact hroom, ?_, fun hl r hm => ?_⟩
        · rw [eventRoutesIn_append]
          exact List.nodup_append.mpr ⟨hnd, List.nodup_singleton _,
            fun a ha b hb hab => not_mem_eventRoutesIn hnone (List.mem_singleton.mp (hab ▸ hb) ▸ ha)⟩
        · rcases List.mem_append.mp hm with hm | hm
          · exact hrep hl r hm
          · rw [List.mem_singleton.mp hm]; rfl
      · rcases List.mem_append.mp hm with hm | hm
        · exact .inl hm
        · cases List.mem_singleton.mp hm
    · exact s.modLinkFlags_evolves l _

theorem State.fire_evolves {s : State} {id : RouteId} (value : Word)
    (hr : (s.port (s.route id).record.link).state = .running) (hf : ¬ s.freeze.state.Holds) :
    s.Evolves (s.fire id value) := State.offerCueEvent_evolves _ hr hf

theorem State.testThreshold_evolves {s : State} {id : RouteId} (y4 : Int)
    (hr : (s.port (s.route id).record.link).state = .running) (hf : ¬ s.freeze.state.Holds) :
    s.Evolves (s.testThreshold id y4) := by
  have arm (a : Bool) : s.Evolves (s.setRoute id { s.route id with armed := a }) :=
    State.setRoute_evolves (.of_marks rfl rfl rfl)
  unfold State.testThreshold
  dsimp only
  split
  · split
    · refine (arm false).trans (State.fire_evolves _ ?_ hf)
      rw [State.setRoute_route_same]
      exact hr
    · exact .refl s
  · split
    · exact arm true
    · exact .refl s

theorem State.evaluates_iff (s : State) (l : LinkId) :
    s.evaluates l = true ↔ ¬ s.freeze.state.Holds ∧ (s.port l).state = .running := by
  unfold State.evaluates FreezeState.Holds
  rw [Bool.and_eq_true, s.running_iff]
  cases s.freeze.state <;> simp

theorem State.evaluate_evolves (s : State) (id : RouteId) : s.Evolves (s.evaluate id) := by
  unfold State.evaluate
  split
  · next h =>
    obtain ⟨hf, hr⟩ := (s.evaluates_iff _).mp h
    split
    · unfold State.evaluateSwitch
      dsimp only
      split
      · exact .refl s
      · exact State.fire_evolves _ hr hf
    · refine (s.noteClip_evolves id _).trans (State.testThreshold_evolves _ ?_ ?_)
      · simpa using hr
      · rw [State.noteClip_eq]; exact hf
  · exact .refl s

theorem State.takeNotice_evolves (s : State) (cues : List CueId) : s.Evolves (s.takeNotice cues) := by
  have all (ids : List RouteId) : ∀ u : State, u.Evolves (ids.foldl State.evaluate u) := by
    induction ids with
    | nil => exact State.Evolves.refl
    | cons id rest ih => exact fun u => (u.evaluate_evolves id).trans (ih _)
  exact (s.updatePeaks_evolves cues).trans (all _ _)

/-- An offered REPLY of at most 48 data bytes (R74, R133). -/
theorem State.offerReply_evolves {s : State} (tag code : Byte) (r : ResultCode) (n : Nat) {data : List Byte}
    (hd : data.length ≤ 48) : s.Evolves (s.offerReply tag code r n data) := by
  by_cases h : (s.port .d).state = .running ∧ (s.port .d).queue.length < 16
  · obtain ⟨hr, hroom⟩ := h
    rw [State.offerReply_joins _ _ _ _ _ _ hr hroom]
    refine State.PortChange.evolves (.of_queue hr (fun ⟨_, hnd, _⟩ => ⟨?_, ?_, fun h => absurd rfl h⟩) (fun _ h => ?_)
      fun m hm => ?_)
    · rw [List.length_append]; exact hroom
    · rw [eventRoutesIn_append]; simpa [eventRoutesIn] using hnd
    · rw [eventRoutesIn_append, h]; rfl
    · rcases List.mem_append.mp hm with hm | hm
      · exact .inl hm
      · cases QueueRecord.reply.inj (List.mem_singleton.mp hm)
        exact .inr hd
  · rw [State.offerReply_lost _ _ _ _ _ _ (by rw [not_and_or, Nat.not_lt] at h; exact h)]
    exact .of_change (.flags s _ s.lastClipped)

theorem State.answer_evolves (s : State) (tag code : Byte) (r : ResultCode) : s.Evolves (s.answer tag code r) :=
  State.offerReply_evolves _ _ _ _ (Nat.zero_le 48)

end Sys2Proof.Machine

/-! PROOFS. Cue entries, the batch unit and the link states as runs of changes. -/

namespace Sys2Proof.Machine

/-! ### Cue entries -/

theorem State.EntryChange.refl (s : State) (c : CueId) : s.EntryChange c (s.cue c) := ⟨rfl, .inl, fun _ h => h⟩

/-- An entry whose configuration, state and age stand, its pending value kept or dropped. -/
theorem State.EntryChange.of_marks {s : State} {c : CueId} {e : CueEntry} (hc : e.config = (s.cue c).config)
    (hs : e.state = (s.cue c).state) (ha : e.age = (s.cue c).age)
    (hp : e.pending = none ∨ e.pending = (s.cue c).pending) : s.EntryChange c e where
  config := hc
  pending h := by rcases hp with hp | hp <;> simp_all
  lawful _ h := by simpa only [CueEntry.Lawful, hc, hs, ha] using h

theorem State.cues_evolves {s : State} {v : Vector CueEntry 256}
    (h : ∀ c, s.EntryChange c ({ s with cues := v }.cue c)) : s.Evolves { s with cues := v } := .of_change (.cues s v h)

theorem State.mapCues_evolves {s : State} {f : CueEntry → CueEntry} (h : ∀ c, s.EntryChange c (f (s.cue c))) :
    s.Evolves (s.mapCues f) := by
  refine State.cues_evolves fun c => ?_
  have : ({ s with cues := mapEach f s.cues }).cue c = f (s.cue c) := s.mapCues_cue f c
  rw [this]
  exact h c

theorem State.modCue_evolves {s : State} {c : CueId} {f : CueEntry → CueEntry} (h : s.EntryChange c (f (s.cue c))) :
    s.Evolves (s.modCue c f) := by
  refine State.cues_evolves fun k => ?_
  have : ({ s with cues := s.cues.set c.val (f (s.cue c)) }).cue k = if k = c then f (s.cue c) else s.cue k :=
    s.setCue_cue c k _
  rw [this]
  split
  · next hk => subst hk; exact h
  · exact .refl s k

/-- A lawful entry that is not EMPTY may move to any other state that its class allows. -/
theorem CueEntry.Lawful.moved {e e' : CueEntry} (h : e.Lawful) (hc : e'.config = e.config) (hn : e.state ≠ .empty)
    (hn' : e'.state ≠ .empty) (hf : e'.state = .fading → e.config.cls = .analog) (ha : e'.age ≤ 65535) : e'.Lawful := by
  obtain ⟨hnone, -, -, -, hrange⟩ := h
  exact ⟨fun ho => absurd (hnone (hc ▸ ho)) hn, fun he => absurd he hn', fun h => hc ▸ hf h, ha, hc ▸ hrange⟩

theorem CueEntry.Lawful.testFresh {e : CueEntry} (h : e.Lawful) : e.testFresh.Lawful := by
  unfold CueEntry.testFresh
  split
  · next hl => exact h.moved rfl (by simp [hl.1]) (by simp) (by simp) h.2.2.2.1
  · exact h

/-- Entry to FADING leaves an entry FADING, if its class is ANALOG, or RESTED. -/
theorem CueEntry.enterFading_state (e : CueEntry) :
    e.enterFading.state = .rested ∨ (e.enterFading.state = .fading ∧ e.config.cls = .analog) := by
  unfold CueEntry.enterFading
  split
  · exact .inl rfl
  · next hc =>
    split
    · exact .inl rfl
    · exact .inr ⟨rfl, hc⟩

theorem CueEntry.Lawful.testHold {e : CueEntry} (h : e.Lawful) : e.testHold.Lawful := by
  unfold CueEntry.testHold
  split
  · next hl =>
    have hs := e.enterFading_state
    refine h.moved (by rw [e.enterFading_eq]) (by simp [hl.1]) ?_ ?_ (by rw [e.enterFading_eq]; exact h.2.2.2.1)
    · rcases hs with hs | ⟨hs, -⟩ <;> simp [hs]
    · rcases hs with hs | ⟨-, hc⟩
      · simp [hs]
      · exact fun _ => hc
  · exact h

theorem CueEntry.Lawful.aged {e : CueEntry} (h : e.Lawful) (hn : e.state ≠ .empty) : e.aged.Lawful :=
  h.moved rfl hn hn h.2.2.1 (Nat.min_le_right _ _)

theorem CueEntry.Lawful.fade {e : CueEntry} (h : e.Lawful) (hf : e.state = .fading) : e.fade.Lawful := by
  have hn : e.state ≠ .empty := by simp [hf]
  unfold CueEntry.fade
  split
  · exact h.moved rfl hn hn h.2.2.1 h.2.2.2.1
  · exact h.moved rfl hn (by simp [CueEntry.rest]) (by simp [CueEntry.rest]) h.2.2.2.1

theorem CueEntry.Lawful.tick {e : CueEntry} (h : e.Lawful) : e.tick.Lawful := by
  cases hs : e.state with
  | empty => rwa [CueEntry.tick_of_empty hs]
  | live => rw [CueEntry.tick_of_live_or_held (.inl hs)]; exact (h.aged (by simp [hs])).testFresh.testHold
  | held => rw [CueEntry.tick_of_live_or_held (.inr hs)]; exact (h.aged (by simp [hs])).testFresh.testHold
  | fading => rw [CueEntry.tick_of_fading hs (h.2.2.1 hs)]; exact (h.aged (by simp [hs])).fade hs
  | rested => rw [CueEntry.tick_of_rested hs]; exact h.aged (by simp [hs])

theorem State.tickCues_evolves (s : State) : s.Evolves (s.mapCues CueEntry.tick) :=
  State.mapCues_evolves fun _ =>
    ⟨CueEntry.tick_config _, fun h => .inl (by rwa [CueEntry.tick_pending] at h), fun _ h => h.tick⟩

theorem State.testFresh_evolves (s : State) (c : CueId) : s.Evolves (s.modCue c CueEntry.testFresh) :=
  State.modCue_evolves ⟨by rw [CueEntry.testFresh_eq], fun h => .inl (by rwa [CueEntry.testFresh_eq] at h),
    fun _ h => h.testFresh⟩

theorem State.testHold_evolves (s : State) (c : CueId) : s.Evolves (s.modCue c CueEntry.testHold) :=
  State.modCue_evolves ⟨by rw [CueEntry.testHold_eq], fun h => .inl (by rwa [CueEntry.testHold_eq] at h),
    fun _ h => h.testHold⟩

/-! ### Commits -/

theorem CueEntry.Lawful.committed {e : CueEntry} (h : e.Lawful) (ho : e.config.owner ≠ none) (v tag : Word) :
    (e.committed v tag).Lawful := by
  obtain ⟨-, -, -, -, hrange⟩ := h
  exact ⟨fun h => absurd h ho, by simp [CueEntry.committed], by simp [CueEntry.committed], Nat.zero_le _, hrange⟩

/-- A commit of cues that have an owner, under the laws of the batch (R4). -/
theorem State.writeCommit_evolves {s : State} (tag : Word) {writes : List (CueId × Word)}
    (hn : (writes.map Prod.fst).Nodup)
    (ho : s.BatchLawful → ∀ c v, writtenTo writes c = some v → (s.cue c).config.owner ≠ none) :
    s.Evolves (s.writeCommit tag writes) := by
  rw [State.writeCommit_eq]
  refine State.cues_evolves fun c => ?_
  have hc : ({ s with cues := (s.writeCommit tag writes).cues }).cue c = (s.writeCommit tag writes).cue c := rfl
  rw [hc, State.writeCommit_cue tag writes c hn]
  cases hw : writtenTo writes c with
  | none => exact .refl s c
  | some v => exact ⟨rfl, fun h => absurd rfl h, fun hb hl => hl.committed (ho hb c v hw) v tag⟩

theorem State.commit_evolves {s : State} (tag : Word) {writes : List (CueId × Word)} (hn : (writes.map Prod.fst).Nodup)
    (ho : s.BatchLawful → ∀ c v, writtenTo writes c = some v → (s.cue c).config.owner ≠ none) :
    s.Evolves (s.commit tag writes) := by
  unfold State.commit
  split
  · exact .refl s
  · exact (State.writeCommit_evolves tag hn ho).trans (State.takeNotice_evolves _ _)

/-- Cues of Link D take pending values under an open batch (R6). -/
theorem State.makePending_evolves {s : State} {writes : List (CueId × Word)} (hopen : s.batch.isOpen = true)
    (hn : (writes.map Prod.fst).Nodup)
    (ho : ∀ c v, writtenTo writes c = some v → (s.cue c).config.owner = some .d) : s.Evolves (s.makePending writes) := by
  rw [State.makePending_eq]
  refine State.cues_evolves fun c => ?_
  have hc : ({ s with cues := (s.makePending writes).cues }).cue c = (s.makePending writes).cue c := rfl
  rw [hc, State.makePending_cue writes c hn]
  cases hw : writtenTo writes c with
  | none => exact .refl s c
  | some v => exact ⟨rfl, fun _ => .inr ⟨hopen, ho c v hw⟩, fun _ h => h⟩

theorem State.pendingWrites_nodup (s : State) : (s.pendingWrites.map Prod.fst).Nodup := by
  have h : s.pendingWrites.map Prod.fst = (List.finRange 256).filter fun c => (s.cue c).pending.isSome := by
    rw [State.pendingWrites, List.map_filterMap, ← List.filterMap_eq_filter]
    refine List.filterMap_congr fun c _ => ?_
    cases h : (s.cue c).pending <;> simp [Option.guard, h]
  rw [h]
  exact (List.nodup_finRange 256).filter _

/-- The closing of a batch writes each pending value to its cue (R30). -/
theorem State.writtenTo_pendingWrites (s : State) (c : CueId) : writtenTo s.pendingWrites c = (s.cue c).pending := by
  have mem (w : CueId × Word) : w ∈ s.pendingWrites ↔ (s.cue w.1).pending = some w.2 := by
    obtain ⟨k, v⟩ := w
    simp [State.pendingWrites, List.mem_filterMap, eq_comm]
  cases hp : (s.cue c).pending with
  | none =>
    simp only [writtenTo, Option.map_eq_none_iff, List.find?_eq_none, decide_eq_true_eq]
    rintro w hw rfl
    rw [mem, hp] at hw
    cases hw
  | some v =>
    have hfound : (s.pendingWrites.find? fun w => decide (w.1 = c)).isSome :=
      List.find?_isSome.mpr ⟨(c, v), (mem _).mpr hp, by simp⟩
    obtain ⟨w, hw⟩ := Option.isSome_iff_exists.mp hfound
    have hc : w.1 = c := by simpa using List.find?_some hw
    have hv := (mem w).mp (List.mem_of_find?_eq_some hw)
    rw [hc, hp] at hv
    rw [writtenTo, hw, Option.map_some, Option.some.inj hv]

/-! ### The batch unit -/

theorem State.BatchChange.of_closed {s : State} {b : BatchUnit} (hb : b.isOpen = false) (ht : b.timer = none)
    (hc : s.batch.isOpen = true → ∀ c, (s.cue c).pending = none) : s.BatchChange b where
  timer _ := by simp [hb, ht]
  opens h := by simp [hb] at h
  closes h _ := hc h

theorem State.abandonBatch_evolves (s : State) : s.Evolves s.abandonBatch := by
  refine State.Evolves.trans (t := s.mapCues fun e => { e with pending := none })
    (State.mapCues_evolves fun _ => .of_marks rfl rfl rfl (.inl rfl)) (.of_change (.batch _ _ ?_))
  exact .of_closed rfl rfl fun _ c => by rw [State.mapCues_cue]

theorem State.tearBatch_evolves (s : State) : s.Evolves s.tearBatch := by
  unfold State.tearBatch
  split
  · exact s.abandonBatch_evolves.trans (State.modFlags_evolves _ _)
  · exact .refl s

theorem State.tearBatch_isOpen (s : State) : s.tearBatch.batch.isOpen = false := by
  unfold State.tearBatch
  split
  · rfl
  · next h => simpa using h

theorem State.testBatchWindow_evolves (s : State) : s.Evolves s.testBatchWindow := by
  unfold State.testBatchWindow
  split
  · split
    · exact s.abandonBatch_evolves.trans (State.modFlags_evolves _ _)
    · exact .refl s
  · exact .refl s

theorem State.tickBatch_evolves (s : State) : s.Evolves s.tickBatch := by
  unfold State.tickBatch
  split
  · next ho =>
    refine State.Evolves.trans (.of_change (.batch s _ ⟨fun h => ?_, fun _ => .inl ho, fun _ hc => ?_⟩))
      (State.testBatchWindow_evolves _)
    · simpa using h
    · exact absurd (hc.symm.trans ho) (by decide)
  · exact .refl s

theorem State.writeCommit_withBatch (tag : Word) (writes : List (CueId × Word)) (b : BatchUnit) : ∀ s : State,
    ({ s with batch := b }).writeCommit tag writes = { s.writeCommit tag writes with batch := b } := by
  induction writes with
  | nil => exact fun _ => rfl
  | cons w rest ih => exact fun s => ih (s.modCue w.1 fun e => e.commit w.2 tag)

/-- The closing of a batch (R30): the pending values are committed, which leaves none, and the batch is CLOSED. -/
theorem State.closeBatch_evolves (s : State) : s.Evolves s.closeBatch := by
  have committed : s.Evolves (s.writeCommit s.batch.openTag s.pendingWrites) := by
    refine State.writeCommit_evolves _ s.pendingWrites_nodup fun hb c v hw => ?_
    rw [State.writtenTo_pendingWrites] at hw
    rw [(hb.1 c (by simp [hw])).2]
    simp
  have closed : s.Evolves (({ s with batch :=
      { s.batch with isOpen := false, timer := none, currentTag := s.batch.openTag } }).writeCommit s.batch.openTag
        s.pendingWrites) := by
    rw [State.writeCommit_withBatch]
    refine committed.trans (.of_change (.batch _ _ (.of_closed rfl rfl fun _ c => ?_)))
    rw [State.writeCommit_cue _ _ _ s.pendingWrites_nodup, State.writtenTo_pendingWrites]
    cases h : (s.cue c).pending with
    | none => exact h
    | some v => rfl
  unfold State.closeBatch State.commit
  split
  · next he =>
    rw [List.isEmpty_iff] at he
    rw [he] at closed
    exact closed
  · exact closed.trans (State.takeNotice_evolves _ _)

/-- The cues that a list of writes names are Link D's. -/
def State.WritesOwned (s : State) (l : LinkId) (writes : List (CueId × Word)) : Prop :=
  (writes.map Prod.fst).Nodup ∧ ∀ c v, writtenTo writes c = some v → (s.cue c).config.owner = some l

theorem State.WritesOwned.of_config {s t : State} {l : LinkId} {writes : List (CueId × Word)} (h : s.WritesOwned l writes)
    (hc : ∀ c, (t.cue c).config = (s.cue c).config) : t.WritesOwned l writes :=
  ⟨h.1, fun c v hw => by rw [hc]; exact h.2 c v hw⟩

theorem State.WritesOwned.commit {s : State} {l : LinkId} {writes : List (CueId × Word)} (h : s.WritesOwned l writes)
    (tag : Word) : s.Evolves (s.commit tag writes) :=
  State.commit_evolves tag h.1 fun _ c v hw => by rw [h.2 c v hw]; simp

theorem State.acceptedCues_owned (s : State) (l : LinkId) (payload : List Byte) :
    s.WritesOwned l (s.acceptedCues l payload) := by
  refine ⟨s.acceptedCues_nodup l payload, fun c v hw => ?_⟩
  rw [State.writtenTo_acceptedCues, State.broughtBy] at hw
  by_contra ho
  rw [if_neg ho] at hw
  cases hw

theorem State.tearBatch_config (s : State) (c : CueId) : (s.tearBatch.cue c).config = (s.cue c).config := by
  rw [State.tearBatch_cue]
  split <;> rfl

theorem State.updateLinkD_evolves {s : State} (opens closes : Bool) (tag : Word) {writes : List (CueId × Word)}
    (hr : (s.port .d).state = .running) (hw : s.WritesOwned .d writes) :
    s.Evolves (s.updateLinkD opens closes tag writes) := by
  have htorn : s.tearBatch.WritesOwned .d writes := hw.of_config s.tearBatch_config
  unfold State.updateLinkD
  split
  · have closed : s.tearBatch.Evolves
        { s.tearBatch with batch := { isOpen := false, openTag := tag, timer := none, currentTag := tag } } :=
      .of_change (.batch _ _ (.of_closed rfl rfl fun h => by simp [State.tearBatch_isOpen] at h))
    refine (s.tearBatch_evolves.trans closed).trans (State.WritesOwned.commit (l := .d) ?_ tag)
    exact htorn.of_config fun _ => rfl
  · refine (s.tearBatch_evolves.trans (.of_change (.batch _ _ ⟨fun _ => by simp, fun _ => .inr ?_, fun _ h => ?_⟩))).trans
      (State.makePending_evolves rfl htorn.1 htorn.2)
    · rw [State.tearBatch_port]; exact hr
    · cases h
  · split
    · next ho => exact (State.makePending_evolves ho hw.1 hw.2).trans (State.closeBatch_evolves _)
    · exact hw.commit _
  · split
    · next ho => exact State.makePending_evolves ho hw.1 hw.2
    · exact hw.commit _

theorem State.flagOwners_evolves (s : State) (l : LinkId) (payload : List Byte) : s.Evolves (s.flagOwners l payload) := by
  unfold State.flagOwners
  split
  · exact .refl s
  · exact s.modLinkFlags_evolves l _

theorem State.flagOwners_port (s : State) (l k : LinkId) (payload : List Byte) :
    ((s.flagOwners l payload).port k).state = (s.port k).state := by
  unfold State.flagOwners
  split
  · rfl
  · rw [State.modLinkFlags_port]
    split
    · next h => rw [h]
    · rfl

theorem State.flagOwners_cue (s : State) (l : LinkId) (payload : List Byte) (c : CueId) :
    (s.flagOwners l payload).cue c = s.cue c := by
  unfold State.flagOwners
  split <;> rfl

theorem State.takeUpdate_evolves {s : State} {l : LinkId} (f : Frame) (hr : (s.port l).state = .running) :
    s.Evolves (s.takeUpdate l f) := by
  have howned : (s.flagOwners l f.payload).WritesOwned l (s.acceptedCues l f.payload) :=
    (s.acceptedCues_owned l f.payload).of_config fun c => by rw [State.flagOwners_cue]
  unfold State.takeUpdate
  dsimp only
  split
  · next hl =>
    subst hl
    exact (s.flagOwners_evolves _ _).trans
      (State.updateLinkD_evolves _ _ _ ((s.flagOwners_port _ _ _).trans hr) howned)
  · exact (s.flagOwners_evolves _ _).trans (howned.commit _)

/-! ### Link states -/

theorem State.tearBatch_setPort (s : State) (l : LinkId) (p : Port) :
    (s.setPort l p).tearBatch = s.tearBatch.setPort l p := by
  cases h : s.batch.isOpen with
  | true => simp only [State.tearBatch, State.setPort_batch, h, if_true]; rfl
  | false => rw [State.tearBatch_closed s h]; exact State.tearBatch_closed _ h

/-- A link's change of state as one update before the re-evaluation (R123). -/
theorem State.leaveFor_running {s : State} {l : LinkId} (h : (s.port l).state = .running) (st : LinkState) :
    s.leaveFor l st = ((if l = .d then s.tearBatch else s).setPort l ((s.port l).stopped st)).reevaluate := by
  rw [State.leaveFor, if_pos ((s.running_iff l).mpr h)]
  split
  · exact congrArg State.reevaluate (s.tearBatch_setPort l _)
  · rfl

theorem State.leaveFor_not_running {s : State} {l : LinkId} (h : (s.port l).state ≠ .running) (st : LinkState) :
    s.leaveFor l st = s.setPort l { s.port l with state := st } :=
  if_neg (mt (s.running_iff l).mp h)

theorem State.leaveFor_evolves (s : State) (l : LinkId) (st : LinkState) : s.Evolves (s.leaveFor l st) := by
  by_cases h : (s.port l).state = .running
  · rw [State.leaveFor_running h]
    refine State.Evolves.trans (State.Evolves.trans (t := if l = .d then s.tearBatch else s) ?_
      (State.PortChange.evolves ?_)) (State.reevaluate_evolves _)
    · split
      · exact s.tearBatch_evolves
      · exact .refl s
    · have hport : (if l = .d then s.tearBatch else s).port l = s.port l := by split <;> simp
      refine .of_less ?_ ?_ (fun _ _ => ⟨rfl, rfl, rfl, rfl⟩) (List.nil_sublist _) (.inr ?_) (.inl rfl) (.inl rfl)
        fun hl ho => ?_
      · rw [hport]; rfl
      · rw [hport]; rfl
      · rw [hport]; rfl
      · rw [if_pos hl, State.tearBatch_isOpen] at ho
        cases ho
  · rw [State.leaveFor_not_running h]
    exact State.PortChange.evolves (.of_less rfl rfl (fun hq _ => hq h) (.refl _) (.inr rfl) (.inr rfl) (.inr rfl)
      fun _ _ hr => absurd hr h)

theorem State.enterRunning_evolves (s : State) (l : LinkId) : s.Evolves (s.enterRunning l) := by
  have entered : s.Evolves (s.setPort l (s.port l).entered) :=
    State.PortChange.evolves (.of_less rfl rfl (fun _ h => absurd rfl h) (.refl _) (.inl rfl) (.inl rfl) (.inl rfl)
      fun _ _ _ => rfl)
  rw [State.enterRunning_eq]
  split
  · refine entered.trans (State.openNext_evolves ?_)
    rw [State.setPort_port_same]
    rfl
  · exact entered

/-- A change of a link that touches none of the fields that the laws speak of. -/
theorem State.marks_evolves {s : State} {l : LinkId} {f : Port → Port} (hst : (f (s.port l)).state = (s.port l).state)
    (hse : (f (s.port l)).settings = (s.port l).settings) (hte : (f (s.port l)).templates = (s.port l).templates)
    (hti : (f (s.port l)).slotTimer = (s.port l).slotTimer) (hc : (f (s.port l)).eventCount = (s.port l).eventCount)
    (hsn : (f (s.port l)).snapshot = (s.port l).snapshot) (hli : (f (s.port l)).line = (s.port l).line)
    (hq : (f (s.port l)).queue = (s.port l).queue) : s.Evolves (s.modPort l f) :=
  State.PortChange.evolves (.of_marks hst hse hte hti hc hsn hli hq)

theorem State.enterStarting_evolves (s : State) (l : LinkId) : s.Evolves (s.enterStarting l) := by
  refine (s.leaveFor_evolves l .starting).trans ?_
  exact State.marks_evolves rfl rfl rfl rfl rfl rfl rfl rfl

theorem State.timeOutStart_evolves (s : State) (l : LinkId) : s.Evolves (s.timeOutStart l) :=
  (s.leaveFor_evolves l _).trans (State.modLinkFlags_evolves _ _ _)

theorem State.loseSignal_evolves (s : State) (l : LinkId) : s.Evolves (s.loseSignal l) :=
  (s.leaveFor_evolves l _).trans (State.modLinkFlags_evolves _ _ _)

theorem State.halt_evolves (s : State) (l : LinkId) : s.Evolves (s.halt l) := by
  refine (s.leaveFor_evolves l .halted).trans ?_
  exact State.marks_evolves rfl rfl rfl rfl rfl rfl rfl rfl

theorem State.tickStarting_evolves (s : State) (l : LinkId) : s.Evolves (s.tickStarting l) := by
  unfold State.tickStarting
  dsimp only
  split
  · refine .trans ?_ (State.enterRunning_evolves _ l)
    exact State.marks_evolves rfl rfl rfl rfl rfl rfl rfl rfl
  · split
    · refine .trans ?_ (State.timeOutStart_evolves _ l)
      exact State.marks_evolves rfl rfl rfl rfl rfl rfl rfl rfl
    · refine .trans ?_ (State.marks_evolves rfl rfl rfl rfl rfl rfl rfl rfl)
      exact State.marks_evolves rfl rfl rfl rfl rfl rfl rfl rfl

theorem State.tickSilence_evolves (s : State) (l : LinkId) : s.Evolves (s.tickSilence l) := by
  unfold State.tickSilence
  dsimp only
  split
  · refine .trans ?_ (State.loseSignal_evolves _ l)
    exact State.marks_evolves rfl rfl rfl rfl rfl rfl rfl rfl
  · exact State.marks_evolves rfl rfl rfl rfl rfl rfl rfl rfl

theorem State.tickDown_evolves (s : State) (l : LinkId) : s.Evolves (s.tickDown l) := by
  unfold State.tickDown
  dsimp only
  split
  · refine .trans ?_ (State.enterStarting_evolves _ l)
    exact State.marks_evolves rfl rfl rfl rfl rfl rfl rfl rfl
  · exact State.marks_evolves rfl rfl rfl rfl rfl rfl rfl rfl

theorem State.tickPort_evolves (s : State) (l : LinkId) : s.Evolves (s.tickPort l) := by
  unfold State.tickPort
  split
  · exact .refl s
  · exact s.tickStarting_evolves l
  · exact s.tickSilence_evolves l
  · exact s.tickSilence_evolves l
  · exact s.tickDown_evolves l

theorem State.tickPart_evolves (s : State) (part : TickPart) : s.Evolves (s.tickPart part) := by
  cases part with
  | cues => exact s.tickCues_evolves
  | batchTimer => exact s.tickBatch_evolves
  | windowTimer => exact s.tickWindow_evolves
  | port l => exact s.tickPort_evolves l

theorem State.tickParts_evolves (parts : List TickPart) : ∀ s : State, s.Evolves (parts.foldl State.tickPart s) := by
  induction parts with
  | nil => exact State.Evolves.refl
  | cons part rest ih => exact fun s => (s.tickPart_evolves part).trans (ih _)

/-! ### Symbols, sequences, check failures -/

theorem State.symbolArrives_evolves (s : State) (l : LinkId) (y : LineSymbol) : s.Evolves (s.symbolArrives l y) := by
  unfold State.symbolArrives
  split
  · exact .refl s
  · exact State.marks_evolves rfl rfl rfl rfl rfl rfl rfl rfl

theorem State.symbolArrives_state (s : State) (l : LinkId) (y : LineSymbol) :
    ((s.symbolArrives l y).port l).state = (s.port l).state := by
  unfold State.symbolArrives
  split
  · rfl
  · rw [State.modPort_port_same]

theorem State.takeSequence_evolves (s : State) (l : LinkId) (seq : Byte) : s.Evolves (s.takeSequence l seq) := by
  unfold State.takeSequence
  dsimp only
  split
  · refine .trans ?_ (State.tearBatch_evolves _)
    exact State.marks_evolves rfl rfl rfl rfl rfl rfl rfl rfl
  · exact State.marks_evolves rfl rfl rfl rfl rfl rfl rfl rfl

theorem State.takeSequence_state (s : State) (l : LinkId) (seq : Byte) :
    ((s.takeSequence l seq).port l).state = (s.port l).state := by
  unfold State.takeSequence
  dsimp only
  split
  · rw [State.tearBatch_port, State.modPort_port_same]
  · rw [State.modPort_port_same]

theorem State.enterRunning_state (s : State) (l : LinkId) : ((s.enterRunning l).port l).state = .running := by
  have entered : ((s.setPort l (s.port l).entered).port l).state = .running := by rw [State.setPort_port_same]; rfl
  rw [State.enterRunning_eq]
  split
  · exact (State.openNext_effect _ l).state.trans entered
  · exact entered

/-- A frame that passes its check, handed on to work that a RUNNING link does (R122, R129). -/
theorem State.frameArrives_evolves (s : State) (l : LinkId) (seq : Byte) {work : State → State}
    (hw : ∀ u : State, (u.port l).state = .running → u.Evolves (work u)) : s.Evolves (s.frameArrives l seq work) := by
  refine (s.symbolArrives_evolves l .data).trans ?_
  unfold State.frameArrives
  dsimp only
  generalize s.symbolArrives l .data = u
  split
  · next h => exact (u.takeSequence_evolves l seq).trans (hw _ ((u.takeSequence_state l seq).trans h))
  · exact ((u.enterRunning_evolves l).trans (State.takeSequence_evolves _ l seq)).trans
      (hw _ ((State.takeSequence_state _ l seq).trans (u.enterRunning_state l)))
  · exact .refl u
  · exact .refl u
  · exact .refl u

theorem State.frameFails_evolves (s : State) (l : LinkId) : s.Evolves (s.frameFails l) := by
  unfold State.frameFails State.failCheck
  dsimp only
  split
  · have flagged := s.modLinkFlags_evolves l fun f => { f with checkErr := true }
    split
    · exact flagged.trans (State.tearBatch_evolves _)
    · split
      · exact flagged.trans (State.halt_evolves _ l)
      · exact flagged
  · exact .refl s

/-! ### Link reset and the LINK actions -/

theorem Route.afterLinkReset_change (s : State) (l : LinkId) (id : RouteId) :
    s.RouteChange id ((s.route id).afterLinkReset l) := by
  unfold Route.afterLinkReset
  split
  · split
    · exact ⟨rfl, fun _ => Route.refreshSettled_settledRight _, fun _ hb _ _ => ⟨hb.1, hb.2.1⟩⟩
    · exact .of_marks rfl rfl rfl
    · exact .refl s id
  · exact .refl s id

theorem State.linkReset_evolves (s : State) (l : LinkId) : s.Evolves (s.linkReset l) := by
  have left : s.Evolves (if l = .d then s.enterStarting l else s.leaveFor l (stateAfterLinkReset l)) := by
    split
    · exact s.enterStarting_evolves l
    · exact s.leaveFor_evolves l _
  refine ((left.trans (State.PortChange.evolves ?_)).trans
    (State.mapRoutes_evolves fun id => Route.afterLinkReset_change _ l id)).trans (State.reevaluate_evolves _)
  exact .of_less rfl rfl (fun _ _ => ⟨rfl, rfl, rfl, rfl⟩) (List.nil_sublist _) (.inl rfl) (.inl rfl) (.inl rfl)
    fun _ _ h => h

theorem State.linkStart_evolves (s : State) (l : LinkId) : s.Evolves (s.linkStart l).2 := by
  unfold State.linkStart
  split
  · exact .refl s
  · split
    · exact .refl s
    · exact s.enterStarting_evolves l

theorem State.linkStop_evolves (s : State) (l : LinkId) : s.Evolves (s.linkStop l).2 := by
  unfold State.linkStop
  split
  · exact .refl s
  · exact s.leaveFor_evolves l .off

end Sys2Proof.Machine

/-! PROOFS. The records of the six tables: what each check refuses, and the state that an accepted record leaves (R17 to
R20, R42 to R47, R84, R87, R120, R37, R108). -/

namespace Sys2Proof.Machine

/-! ### A table by its index -/

theorem State.writeRecord_cue (s : State) (i : CueId) (bs : List Byte) :
    s.writeRecord .cue i.val bs = s.writeCue i bs := dif_pos (c := i.val < TableId.cue.size) i.isLt

theorem State.writeRecord_route (s : State) (id : RouteId) (bs : List Byte) :
    s.writeRecord .route id.val bs = s.writeRoute id bs := dif_pos (c := id.val < TableId.route.size) id.isLt

theorem linkOfIndex_number (l : LinkId) : linkOfIndex l.number = l := by cases l <;> rfl

theorem State.writeRecord_plan (s : State) (l : LinkId) (bs : List Byte) :
    s.writeRecord .plan l.number bs = s.writePlan l bs := by cases l <;> rfl

theorem State.writeRecord_link (s : State) (l : LinkId) (bs : List Byte) :
    s.writeRecord .link l.number bs = s.writeLink l bs := by cases l <;> rfl

theorem State.writeRecord_global (s : State) (bs : List Byte) : s.writeRecord .global 0 bs = s.writeGlobal bs := rfl

/-- The index of a template is link number × 4 + template number (chapter 5.1). -/
theorem templateIndex_lt (l : LinkId) (t : BitVec 2) : l.number * 4 + t.toNat < 16 := by
  have := t.isLt
  cases l <;> simp [LinkId.number] <;> omega

theorem linkOfIndex_template (l : LinkId) (t : BitVec 2) : linkOfIndex ((l.number * 4 + t.toNat) / 4) = l := by
  have h : (l.number * 4 + t.toNat) / 4 = l.number := by have := t.isLt; omega
  rw [h, linkOfIndex_number]

theorem templateOfIndex_template (l : LinkId) (t : BitVec 2) : templateOfIndex (l.number * 4 + t.toNat) = t := by
  apply BitVec.eq_of_toNat_eq
  have := t.isLt
  rw [templateOfIndex, BitVec.toNat_ofNat]
  omega

theorem State.writeRecord_template (s : State) (l : LinkId) (t : BitVec 2) (bs : List Byte) :
    s.writeRecord .template (l.number * 4 + t.toNat) bs = s.writeTemplate l t bs := by
  have h : s.writeRecord .template (l.number * 4 + t.toNat) bs =
      s.writeTemplate (linkOfIndex ((l.number * 4 + t.toNat) / 4)) (templateOfIndex (l.number * 4 + t.toNat)) bs :=
    dif_pos (c := l.number * 4 + t.toNat < TableId.template.size) (templateIndex_lt l t)
  rw [h, linkOfIndex_template, templateOfIndex_template]

/-- A re-evaluation depends on the state before it alone, and so on the state after it with the controller put back. -/
theorem State.reevaluate_again (u : State) :
    u.reevaluate.freeze = ({ u.reevaluate with freeze := u.freeze }).reevaluate.freeze := by
  have h : { u.reevaluate with freeze := u.freeze } = u := by rw [State.reevaluate_eq]
  rw [h]

/-! ### CUE -/

theorem ownerOfCode_eq_none_iff (b : BitVec 3) : ownerOfCode b = none ↔ 5 ≤ b.toNat := by
  revert b
  decide

theorem CueConfig.ofBytes_eq_none_iff (bs : List Byte) :
    CueConfig.ofBytes bs = none ↔ 5 ≤ ((byteAt bs 0).extractLsb' 0 3).toNat := by
  rw [CueConfig.ofBytes, Option.map_eq_none_iff, ownerOfCode_eq_none_iff]

theorem CueConfig.inRange_iff (c : CueConfig) : c.inRange = true ↔
    1 ≤ c.freshLimit.toNat ∧ c.freshLimit.toNat ≤ 5000 ∧ c.holdLimit.toNat ≤ 60000
      ∧ 1 ≤ c.fadeStep.toNat ∧ c.fadeStep.toNat ≤ 32767 := by
  simp only [CueConfig.inRange, Bool.and_eq_true, decide_eq_true_eq, and_assoc]

theorem State.writeCue_of_none {s : State} {i : CueId} {bs : List Byte} (h : CueConfig.ofBytes bs = none) :
    s.writeCue i bs = .error .badValue := by rw [State.writeCue, h]

theorem State.writeCue_of_some {s : State} {i : CueId} {bs : List Byte} {c : CueConfig}
    (h : CueConfig.ofBytes bs = some c) :
    s.writeCue i bs = if c.inRange then .ok (s.acceptCue i c) else .error .badValue := by rw [State.writeCue, h]

/-- An entry emptied under a new configuration (R18). -/
def CueEntry.emptied (e : CueEntry) (c : CueConfig) : CueEntry :=
  { e with config := c, value := c.neutral, previous := c.neutral, pending := none, stepTag := 0, age := 0
           state := .empty }

theorem CueEntry.configure_kept {e : CueEntry} {c : CueConfig} (hc : c.cls = e.config.cls)
    (ho : c.owner = e.config.owner) : e.configure c = { e with config := c } := if_pos ⟨hc, ho⟩

theorem CueEntry.configure_emptied {e : CueEntry} {c : CueConfig} (h : c.cls ≠ e.config.cls ∨ c.owner ≠ e.config.owner) :
    e.configure c = e.emptied c := if_neg fun ⟨hc, ho⟩ => h.elim (· hc) (· ho)

/-- A record that keeps the class changes its entry alone (R18, R19). -/
theorem State.acceptCue_sameClass {s : State} {i : CueId} {c : CueConfig} (h : c.cls = (s.cue i).config.cls) :
    s.acceptCue i c = s.setCue i ((s.cue i).configure c) := if_pos h

/-- A record that changes the class starts the routes of its source again, and has the ramp re-evaluated (R47). -/
theorem State.acceptCue_newClass {s : State} {i : CueId} {c : CueConfig} (h : c.cls ≠ (s.cue i).config.cls) :
    s.acceptCue i c =
      ((s.setCue i ((s.cue i).configure c)).mapRoutes (Route.afterClassChange i)).reevaluate := if_neg h

theorem Route.restarted_eq (x : Route) (h : x.record.kind = .field) :
    Route.refreshSettled { x with held := x.record.neutral, peak := none, converged := false } = x.restarted := by
  simp [Route.refreshSettled, Route.restarted, h]

theorem Route.afterClassChange_field {i : CueId} {x : Route} (hs : cueOfByte x.record.sourceA = i)
    (hk : x.record.kind = .field) : x.afterClassChange i = x.restarted := by
  rw [Route.afterClassChange, if_pos hs, ← Route.restarted_eq x hk, hk]

theorem Route.afterClassChange_event {i : CueId} {x : Route} (hs : cueOfByte x.record.sourceA = i)
    (hk : x.record.kind = .event) : x.afterClassChange i = { x with armed := true } := by
  rw [Route.afterClassChange, if_pos hs, hk]

theorem Route.afterClassChange_other {i : CueId} {x : Route}
    (h : cueOfByte x.record.sourceA ≠ i ∨ x.record.kind = .off) : x.afterClassChange i = x := by
  unfold Route.afterClassChange
  split
  · next hs => rw [h.resolve_left (not_not.mpr hs)]
  · rfl

/-! ### LINK -/

/-- Every slot of nonzero length of a plan fits (R101). -/
theorem planFits_iff (l : LinkId) (rate : LineRate) (templates : BitVec 2 → Template) (p : Plan) :
    planFits l rate templates p = true ↔
      ∀ k : Fin 6, p[k.val].length ≠ 0 → SlotFits l rate p[k.val] (templates p[k.val].template) := by
  unfold planFits
  rw [plan_all]
  refine forall_congr' fun k => ?_
  rw [Bool.or_eq_true, decide_eq_true_eq, decide_eq_true_eq, ruleMinimum_le_iff, or_iff_not_imp_left]

theorem LinkState.startable_eq_false_iff (st : LinkState) :
    st.startable = false ↔ st = .starting ∨ st = .running := by cases st <;> simp [LinkState.startable]

theorem bitOfByte_of_le {b : Byte} (h : b.toNat ≤ 1) : bitOfByte b = some (decide (b.toNat = 1)) := by
  have : b.toNat = 0 ∨ b.toNat = 1 := by omega
  rcases this with h | h <;> simp [bitOfByte, h]

theorem bitOfByte_eq_some {b : Byte} {v : Bool} (h : bitOfByte b = some v) : b.toNat ≤ 1 := by
  unfold bitOfByte at h
  split at h
  · omega
  · omega
  · cases h

theorem LineRate.ofCode_eq_some {b : Byte} {r : LineRate} (h : LineRate.ofCode b = some r) : b.toNat ≤ 2 := by
  unfold LineRate.ofCode at h
  split at h
  · omega
  · omega
  · omega
  · cases h

/-- The codes and ranges of a LINK record's bytes (R120, check 1). -/
def LinkBytesCoded (bs : List Byte) : Prop :=
  (byteAt bs 0).toNat ≤ 2 ∧ (byteAt bs 1).toNat ≤ 1 ∧ (byteAt bs 2).toNat ≤ 1
    ∧ (byteAt bs 3).toNat ≤ 1 ∧ 1 ≤ (byteAt bs 4).toNat ∧ (byteAt bs 4).toNat ≤ 3 ∧ (byteAt bs 5).toNat ≤ 15

theorem LinkSettings.ofBytes_eq_some {bs : List Byte} {r : LinkSettings} (h : LinkSettings.ofBytes bs = some r) :
    LinkBytesCoded bs ∧ r.evMax = (byteAt bs 4).toNat ∧ r.almostFull = (byteAt bs 5).toNat := by
  unfold LinkSettings.ofBytes at h
  split at h
  · next hr ho ht hh =>
    split at h
    · next hev =>
      cases Option.some.inj h
      exact ⟨⟨LineRate.ofCode_eq_some hr, bitOfByte_eq_some ho, bitOfByte_eq_some ht, bitOfByte_eq_some hh, hev⟩,
        rfl, rfl⟩
    · cases h
  · cases h

/-- A LINK record whose bytes hold codes of their own is read with these (R136). -/
theorem LinkSettings.ofBytes_of_coded {bs : List Byte} (h : LinkBytesCoded bs) {rate : LineRate} {order : ByteOrder}
    {trigger : Trigger} (hr : LineRate.ofCode (byteAt bs 0) = some rate)
    (ho : order = if (byteAt bs 1).toNat = 1 then .little else .big)
    (ht : trigger = if (byteAt bs 2).toNat = 1 then .external else .internal) :
    LinkSettings.ofBytes bs = some
      { rate := rate, order := order, trigger := trigger, haltOnCheck := decide ((byteAt bs 3).toNat = 1)
        evMax := (byteAt bs 4).toNat, almostFull := (byteAt bs 5).toNat } := by
  obtain ⟨-, h1, h2, h3, hev⟩ := h
  unfold LinkSettings.ofBytes
  rw [hr, bitOfByte_of_le h1, bitOfByte_of_le h2, bitOfByte_of_le h3]
  simp only [if_pos hev, ho, ht, decide_eq_true_eq]

theorem State.writeLink_of_none {s : State} {l : LinkId} {bs : List Byte} (h : LinkSettings.ofBytes bs = none) :
    s.writeLink l bs = .error .badValue := by rw [State.writeLink, h]

/-- Link D's trigger, halt-on-check and rate are fixed (R120, check 2). -/
def State.LinkDKept (s : State) (l : LinkId) (r : LinkSettings) : Prop :=
  l = .d → r.trigger = .internal ∧ r.haltOnCheck = false ∧ r.rate = strappedRate s.rate1 s.rate0

/-- Rate, byte order and trigger stand while the link is STARTING or RUNNING (R120, check 3). -/
def Port.HoldsSettings (p : Port) (r : LinkSettings) : Prop :=
  (r.rate ≠ p.settings.rate ∨ r.order ≠ p.settings.order ∨ r.trigger ≠ p.settings.trigger)
    ∧ (p.state = .starting ∨ p.state = .running)

/-- Every slot of nonzero length fits at a new rate (R120, check 4; R101). -/
def Port.FitsAt (p : Port) (l : LinkId) (rate : LineRate) : Prop :=
  rate ≠ p.settings.rate →
    ∀ k : Fin 6, p.plan[k.val].length ≠ 0 → SlotFits l rate p.plan[k.val] (p.template p.plan[k.val].template)

theorem State.linkRefusal_fixed {s : State} {l : LinkId} {r : LinkSettings} (h : ¬ s.LinkDKept l r) :
    s.linkRefusal l r = some .badValue := by
  have hb : (l = .d && (r.trigger ≠ .internal || r.haltOnCheck || r.rate ≠ strappedRate s.rate1 s.rate0)) = true := by
    obtain ⟨hl, hbad⟩ := Classical.not_imp.mp h
    simp only [Bool.and_eq_true, Bool.or_eq_true, decide_eq_true_eq]
    refine ⟨hl, by_contra fun hn => hbad ?_⟩
    simpa [and_assoc] using hn
  exact if_pos hb

theorem State.linkRefusal_kept {s : State} {l : LinkId} {r : LinkSettings} (h : s.LinkDKept l r) :
    s.linkRefusal l r =
      if (r.rate ≠ (s.port l).settings.rate || r.order ≠ (s.port l).settings.order
          || r.trigger ≠ (s.port l).settings.trigger) && !(s.port l).state.startable then some .linkState
      else if r.rate ≠ (s.port l).settings.rate && !planFits l r.rate (s.port l).template (s.port l).plan then
        some .slotTooShort
      else none := by
  refine if_neg ?_
  simp only [Bool.and_eq_true, Bool.or_eq_true, decide_eq_true_eq]
  rintro ⟨hl, hbad⟩
  obtain ⟨ht, hh, hr⟩ := h hl
  simp [ht, hh, hr] at hbad

theorem State.linkRefusal_held {s : State} {l : LinkId} {r : LinkSettings} (h : s.LinkDKept l r)
    (hh : (s.port l).HoldsSettings r) : s.linkRefusal l r = some .linkState := by
  rw [State.linkRefusal_kept h, if_pos]
  obtain ⟨hne, hst⟩ := hh
  rw [Bool.and_eq_true, (LinkState.startable_eq_false_iff _).mpr hst]
  simpa [or_assoc] using hne

theorem State.linkRefusal_free {s : State} {l : LinkId} {r : LinkSettings} (h : s.LinkDKept l r)
    (hh : ¬ (s.port l).HoldsSettings r) :
    s.linkRefusal l r =
      if r.rate ≠ (s.port l).settings.rate && !planFits l r.rate (s.port l).template (s.port l).plan then
        some .slotTooShort
      else none := by
  rw [State.linkRefusal_kept h, if_neg]
  rw [Bool.and_eq_true, Bool.not_eq_true', LinkState.startable_eq_false_iff]
  rintro ⟨hne, hst⟩
  exact hh ⟨by simpa [or_assoc] using hne, hst⟩

theorem State.linkRefusal_short {s : State} {l : LinkId} {r : LinkSettings} (h : s.LinkDKept l r)
    (hh : ¬ (s.port l).HoldsSettings r) (hf : ¬ (s.port l).FitsAt l r.rate) :
    s.linkRefusal l r = some .slotTooShort := by
  unfold Port.FitsAt at hf
  rw [Classical.not_imp, ← planFits_iff] at hf
  rw [State.linkRefusal_free h hh, if_pos]
  simpa using hf

theorem State.linkRefusal_none {s : State} {l : LinkId} {r : LinkSettings} (h : s.LinkDKept l r)
    (hh : ¬ (s.port l).HoldsSettings r) (hf : (s.port l).FitsAt l r.rate) : s.linkRefusal l r = none := by
  unfold Port.FitsAt at hf
  rw [← planFits_iff] at hf
  rw [State.linkRefusal_free h hh, if_neg]
  simpa using hf

theorem State.writeLink_of_refusal {s : State} {l : LinkId} {bs : List Byte} {r : LinkSettings} {code : ResultCode}
    (h : LinkSettings.ofBytes bs = some r) (hr : s.linkRefusal l r = some code) : s.writeLink l bs = .error code := by
  simp only [State.writeLink, h, hr]

theorem State.writeLink_of_accepted {s : State} {l : LinkId} {bs : List Byte} {r : LinkSettings}
    (h : LinkSettings.ofBytes bs = some r) (hr : s.linkRefusal l r = none) :
    s.writeLink l bs = .ok (s.setPort l { s.port l with settings := r }) := by
  simp only [State.writeLink, h, hr]
  rfl

/-! ### GLOBAL -/

theorem GlobalSettings.inRange_iff (g : GlobalSettings) : g.inRange = true ↔
    1 ≤ g.batchWindow.toNat ∧ g.batchWindow.toNat ≤ 255 ∧ 1 ≤ g.freezeWindow.toNat
      ∧ g.freezeWindow.toNat ≤ 60000 ∧ 1 ≤ g.resumeWindow.toNat ∧ g.resumeWindow.toNat ≤ 60000 := by
  simp only [GlobalSettings.inRange, Bool.and_eq_true, decide_eq_true_eq, and_assoc]

/-- Settles O49: each check by the lemma that names its refusal, and an accepted record by the state it leaves. -/
theorem cueLinkAndGlobalRecordsAreCheckedAndWritten : Obligations.CueLinkAndGlobalRecordsAreCheckedAndWritten := by
  refine ⟨fun i bs s => ⟨CueConfig.ofBytes_eq_none_iff bs, fun h => ?_, fun c hc => ?cue⟩, fun l bs s => ?link,
    fun bs s => ?global⟩
  · rw [State.writeRecord_cue, State.writeCue_of_none h]
  case cue =>
    rw [State.writeRecord_cue, State.writeCue_of_some hc]
    simp only [← CueConfig.inRange_iff]
    refine ⟨fun h => if_neg h, fun h hcls hown => ?_, fun h hcls hown => ?_, fun h hcls => ?_⟩
    · rw [if_pos h, State.acceptCue_sameClass hcls, CueEntry.configure_kept hcls hown]
    · rw [if_pos h, State.acceptCue_sameClass hcls, CueEntry.configure_emptied (.inr hown)]
      rfl
    · refine ⟨s.acceptCue i c, if_pos h, ?_⟩
      rw [State.acceptCue_newClass hcls, CueEntry.configure_emptied (.inl hcls)]
      refine ⟨?_, fun id hs hk => ?_, fun id hs hk => ?_, fun id ho => ?_, ?_⟩
      · rw [State.reevaluate_eq]; rfl
      · rw [State.reevaluate_route, State.mapRoutes_route]
        exact Route.afterClassChange_field hs hk
      · rw [State.reevaluate_route, State.mapRoutes_route]
        exact Route.afterClassChange_event hs hk
      · rw [State.reevaluate_route, State.mapRoutes_route]
        exact Route.afterClassChange_other ho
      · exact State.reevaluate_again _
  case link =>
    rw [State.writeRecord_link]
    refine ⟨fun h => State.writeLink_of_none ?_, fun rate order trigger hcoded hr ho ht => ?_⟩
    · refine Option.eq_none_iff_forall_ne_some.mpr fun r hr => h (LinkSettings.ofBytes_eq_some hr).1
    · have hrate : LineRate.ofCode (byteAt bs 0) = some rate := by
        cases rate <;> simp only at hr <;> simp [LineRate.ofCode, hr]
      have hread := LinkSettings.ofBytes_of_coded hcoded (order := order) (trigger := trigger) hrate
        (by cases order <;> simp only at ho <;> simp [ho]) (by cases trigger <;> simp only at ht <;> simp [ht])
      exact ⟨fun h => State.writeLink_of_refusal hread (State.linkRefusal_fixed h),
        fun h hh => State.writeLink_of_refusal hread (State.linkRefusal_held h hh),
        fun h hh hf => State.writeLink_of_refusal hread (State.linkRefusal_short h hh hf),
        fun h hh hf => State.writeLink_of_accepted hread (State.linkRefusal_none h hh hf)⟩
  case global =>
    rw [State.writeRecord_global, State.writeGlobal]
    have hiff := (GlobalSettings.ofBytes bs).inRange_iff
    exact ⟨fun h => if_neg (mt hiff.mp h), fun h => if_pos (hiff.mpr h)⟩

end Sys2Proof.Machine

/-! PROOFS. The ROUTE, TEMPLATE and PLAN records: their checks in order, and what an accepted one leaves (R42 to R45, R84,
R85, R87, R88). -/

namespace Sys2Proof.Machine

/-! ### ROUTE -/

theorem RouteKind.ofCode_eq_none_iff (b : BitVec 2) : RouteKind.ofCode b = none ↔ b.toNat = 3 := by
  revert b
  decide

theorem RouteRecord.ofBytes_eq_none_iff (bs : List Byte) :
    RouteRecord.ofBytes bs = none ↔ ((byteAt bs 0).extractLsb' 6 2).toNat = 3 := by
  rw [RouteRecord.ofBytes, Option.map_eq_none_iff, RouteKind.ofCode_eq_none_iff]

/-- The checks of R43 are those that `Consistent` names. -/
theorem RouteRecord.consistent_iff (r : RouteRecord) (cls : CueClass) : r.consistent cls = true ↔ r.Consistent cls := by
  have hshift : r.shift.toNat ≤ 15 := Nat.le_of_lt_succ r.shift.isLt
  have hslew : r.slew = 0 ↔ r.slew.toNat = 0 := by rw [BitVec.toNat_eq]; rfl
  unfold RouteRecord.consistent RouteRecord.Consistent
  simp only [Bool.and_eq_true, Bool.or_eq_true, Bool.not_eq_true', decide_eq_true_eq, Bool.and_eq_false_iff,
    Bool.or_eq_false_iff, decide_eq_false_iff_not, hshift, true_and, hslew, and_assoc, Bool.not_eq_false']
  cases r.combine <;> cases r.sourceBPresent <;> cases r.kind <;> cases cls <;> cases r.substitutePresent <;>
    simp <;> omega

/-- Another FIELD route holds a record's position (R44). -/
theorem State.positionTaken_iff (s : State) (id : RouteId) (r : RouteRecord) : s.positionTaken id r = true ↔
    ∃ k, k ≠ id ∧ (s.route k).record.kind = .field ∧ (s.route k).record.link = r.link
      ∧ (s.route k).record.template = r.template ∧ (s.route k).record.position = r.position := by
  simp [State.positionTaken, allRoutes, RouteRecord.fills, and_assoc, BitVec.toNat_inj]

theorem RouteRecord.samePlace_iff (old new : RouteRecord) : old.samePlace new = true ↔
    old.kind = .field ∧ new.kind = .field ∧ old.link = new.link ∧ old.template = new.template
      ∧ old.position = new.position := by
  simp [RouteRecord.samePlace, and_assoc]

/-- What the checks of R42 answer from the third on, kind by kind. -/
theorem State.routeRefusal_off {s : State} {id : RouteId} {r : RouteRecord} (h : r.kind = .off) :
    s.routeRefusal id r = none := if_pos h

theorem State.routeRefusal_inconsistent {s : State} {id : RouteId} {r : RouteRecord} (h : r.kind ≠ .off)
    (hc : ¬ r.Consistent (s.sourceClass r)) : s.routeRefusal id r = some .badValue := by
  rw [← r.consistent_iff, Bool.not_eq_true] at hc
  rw [State.routeRefusal, if_neg h, if_pos (by simp [hc])]

theorem State.routeRefusal_event {s : State} {id : RouteId} {r : RouteRecord} (h : r.kind = .event)
    (hc : r.Consistent (s.sourceClass r)) :
    s.routeRefusal id r = if r.hysteresis.toNat ≤ 32767 then none else some .badValue := by
  rw [← r.consistent_iff] at hc
  rw [State.routeRefusal, if_neg (by simp [h]), if_neg (by simp [hc]), if_pos h]

theorem State.routeRefusal_field {s : State} {id : RouteId} {r : RouteRecord} (h : r.kind = .field)
    (hc : r.Consistent (s.sourceClass r)) :
    s.routeRefusal id r =
      if ((s.port r.link).template r.template).fields ≤ r.position.toNat then some .badIndex
      else if s.positionTaken id r then some .positionTaken
      else none := by
  rw [← r.consistent_iff] at hc
  rw [State.routeRefusal, if_neg (by simp [h]), if_neg (by simp [hc]), if_neg (by simp [h])]

theorem State.writeRoute_protected {s : State} {id : RouteId} {bs : List Byte} (h : s.management.protects id.val = true) :
    s.writeRoute id bs = .error .isProtected := if_pos h

theorem State.writeRoute_unprotected {s : State} {id : RouteId} {bs : List Byte}
    (h : s.management.protects id.val = false) :
    s.writeRoute id bs = match RouteRecord.ofBytes bs with
      | none => .error .badValue
      | some r => match s.routeRefusal id r with
        | some code => .error code
        | none => .ok (s.setRoute id ((s.route id).rewritten r)).reevaluate :=
  if_neg (by simp [h])

theorem State.writeRoute_refused {s : State} {id : RouteId} {bs : List Byte} {r : RouteRecord} {code : ResultCode}
    (hp : s.management.protects id.val = false) (h : RouteRecord.ofBytes bs = some r)
    (hr : s.routeRefusal id r = some code) : s.writeRoute id bs = .error code := by
  rw [State.writeRoute_unprotected hp, h]
  simp only [hr]

theorem State.writeRoute_accepted {s : State} {id : RouteId} {bs : List Byte} {r : RouteRecord}
    (hp : s.management.protects id.val = false) (h : RouteRecord.ofBytes bs = some r)
    (hr : s.routeRefusal id r = none) :
    s.writeRoute id bs = .ok (s.setRoute id ((s.route id).rewritten r)).reevaluate := by
  rw [State.writeRoute_unprotected hp, h]
  simp only [hr]

/-- A record that the checks of R42 let in, kind by kind. -/
def State.RouteAccepted (s : State) (id : RouteId) (r : RouteRecord) : Prop :=
  r.kind = .off
    ∨ (r.kind = .event ∧ r.Consistent (s.sourceClass r) ∧ r.hysteresis.toNat ≤ 32767)
    ∨ (r.kind = .field ∧ r.Consistent (s.sourceClass r)
        ∧ r.position.toNat < ((s.port r.link).template r.template).fields
        ∧ ¬ ∃ k, k ≠ id ∧ (s.route k).record.kind = .field ∧ (s.route k).record.link = r.link
          ∧ (s.route k).record.template = r.template ∧ (s.route k).record.position = r.position)

theorem State.routeRefusal_eq_none_iff (s : State) (id : RouteId) (r : RouteRecord) :
    s.routeRefusal id r = none ↔ s.RouteAccepted id r := by
  unfold State.RouteAccepted
  by_cases hc : r.Consistent (s.sourceClass r)
  · cases hk : r.kind with
    | off => simp [State.routeRefusal_off hk]
    | event => simp [State.routeRefusal_event hk hc, hc]
    | field =>
      rw [State.routeRefusal_field hk hc, ← State.positionTaken_iff]
      split
      next hn => simp [Nat.not_lt.mpr hn]
      next hn => simp [hc, Nat.not_le.mp hn]
  · cases hk : r.kind with
    | off => simp [State.routeRefusal_off hk]
    | event => simp [State.routeRefusal_inconsistent (hk ▸ by simp) hc, hc]
    | field => simp [State.routeRefusal_inconsistent (hk ▸ by simp) hc, hc]

theorem Route.rewritten_held (x : Route) (r : RouteRecord) :
    (x.rewritten r).held = if x.record.samePlace r then r.nearest x.held else r.neutral := rfl

theorem RouteRecord.nearest_below {r : RouteRecord} {h : Word} (hl : h.toInt < r.lo.toInt) : r.nearest h = r.lo :=
  if_pos hl

theorem RouteRecord.nearest_above {r : RouteRecord} {h : Word} (hl : r.lo.toInt ≤ h.toInt) (hu : r.hi.toInt < h.toInt) :
    r.nearest h = r.hi := by rw [RouteRecord.nearest, if_neg (Int.not_lt.mpr hl), if_pos hu]

theorem RouteRecord.nearest_within {r : RouteRecord} {h : Word} (hl : r.lo.toInt ≤ h.toInt) (hu : h.toInt ≤ r.hi.toInt) :
    r.nearest h = h := by rw [RouteRecord.nearest, if_neg (Int.not_lt.mpr hl), if_neg (Int.not_lt.mpr hu)]

theorem Route.rewritten_settledRight (x : Route) (r : RouteRecord) : (x.rewritten r).SettledRight :=
  Route.refreshSettled_settledRight _

/-! ### TEMPLATE -/

/-- The width of a position in bytes (R83). -/
def Template.width (t : Template) (i : Nat) : Nat := if t.isWide i then 2 else 1

theorem Template.headBytes_eq {t : Template} {k : Byte} (h : t.split = some k) (hk : k.toNat ≤ t.fields) :
    t.headBytes = ((List.range k.toNat).map t.width).sum := by
  rw [Template.headBytes, Template.splitAt_of_some h, List.take_range, min_eq_left hk]
  rfl

theorem Template.headBytes_add_tailBytes (t : Template) : t.headBytes + t.tailBytes = t.payloadBytes := by
  simp only [Template.headBytes, Template.tailBytes, Template.payloadBytes, Template.bytesOf]
  rw [← List.sum_append, ← List.map_append, List.take_append_drop]

theorem Template.lawful_iff (t : Template) : t.lawful = true ↔
    t.fields ≤ 24 ∧ ∀ split, t.split = some split → 1 ≤ split.toNat ∧ split.toNat < t.fields := by
  unfold Template.lawful
  cases h : t.split <;> simp

theorem SlotRule.namesTemplate_iff (rule : SlotRule) :
    rule.namesTemplate = true ↔ rule ∈ [SlotRule.cyclic, .eventOrCyclic, .head, .tail, .tailOrEvent] := by
  cases rule <;> simp [SlotRule.namesTemplate]

theorem SlotRule.needsSplit_iff (rule : SlotRule) :
    rule.needsSplit = true ↔ rule ∈ [SlotRule.head, .tail, .tailOrEvent] := by
  cases rule <;> simp [SlotRule.needsSplit]

/-- A test holds of some slot of nonzero length. -/
theorem openedSlots_any (p : Plan) (test : Slot → Bool) :
    (openedSlots p).any test = true ↔ ∃ k : Fin 6, p[k.val].length ≠ 0 ∧ test p[k.val] = true := by
  rw [openedSlots, List.any_filter, plan_any]
  simp

/-- A slot of nonzero length needs the template split, and the record leaves it whole (R84, check 2). -/
def Port.Unsplit (p : Port) (t : BitVec 2) (rec : Template) : Prop :=
  rec.split = none ∧ ∃ k : Fin 6, p.plan[k.val].length ≠ 0 ∧ p.plan[k.val].template = t
    ∧ p.plan[k.val].rule ∈ [SlotRule.head, .tail, .tailOrEvent]

/-- Every FIELD route of the template lies below the record's field count (R84, check 3). -/
def State.HoldsAll (s : State) (l : LinkId) (t : BitVec 2) (rec : Template) : Prop :=
  ∀ id, s.InTemplate l t id → (s.route id).record.position.toNat < rec.fields

/-- Every slot that names the template fits with the record (R84, check 4; R101). -/
def Port.FitsTemplate (p : Port) (l : LinkId) (t : BitVec 2) (rec : Template) : Prop :=
  ∀ k : Fin 6, p.plan[k.val].length ≠ 0 → p.plan[k.val].template = t →
    p.plan[k.val].rule ∈ [SlotRule.cyclic, .eventOrCyclic, .head, .tail, .tailOrEvent] →
    SlotFits l p.settings.rate p.plan[k.val] rec

/-- The checks of R84 in the terms of the statements, in their order. -/
theorem State.templateRefusal_eq (s : State) (l : LinkId) (t : BitVec 2) (rec : Template)
    [Decidable ((s.port l).Unsplit t rec)] [Decidable (s.HoldsAll l t rec)]
    [Decidable ((s.port l).FitsTemplate l t rec)] :
    s.templateRefusal l t rec =
      if rec.lawful = false then some .badValue
      else if (s.port l).Unsplit t rec then some .badValue
      else if ¬ s.HoldsAll l t rec then some .positionTaken
      else if ¬ (s.port l).FitsTemplate l t rec then some .slotTooShort
      else none := by
  have hunsplit : (rec.split.isNone && (openedSlots (s.port l).plan).any fun slot =>
      slot.rule.needsSplit && slot.template = t) = true ↔ (s.port l).Unsplit t rec := by
    rw [Bool.and_eq_true, Option.isNone_iff_eq_none, openedSlots_any]
    simp only [Bool.and_eq_true, SlotRule.needsSplit_iff, decide_eq_true_eq, Port.Unsplit, and_comm]
  have hholds : (s.routes.toArray.toList.any fun x => x.record.kind = .field && x.record.link = l
      && x.record.template = t && rec.fields ≤ x.record.position.toNat) = true ↔ ¬ s.HoldsAll l t rec := by
    rw [State.routes_any]
    simp [State.HoldsAll, State.InTemplate, and_assoc]
  have hfits : ((openedSlots (s.port l).plan).any fun slot => slot.rule.namesTemplate && slot.template = t
      && slot.length.toNat < ruleMinimum l (s.port l).settings.rate slot.rule rec) = true
        ↔ ¬ (s.port l).FitsTemplate l t rec := by
    rw [openedSlots_any]
    simp only [Bool.and_eq_true, SlotRule.namesTemplate_iff, decide_eq_true_eq, ← Nat.not_le, ruleMinimum_le_iff,
      Port.FitsTemplate, not_forall, exists_prop]
    exact exists_congr fun k => by tauto
  unfold State.templateRefusal
  simp only [hunsplit, hholds, hfits, Bool.not_eq_true']

theorem State.writeTemplate_refused {s : State} {l : LinkId} {t : BitVec 2} {bs : List Byte} {code : ResultCode}
    (h : s.templateRefusal l t (Template.ofBytes bs) = some code) : s.writeTemplate l t bs = .error code := by
  rw [State.writeTemplate, h]

theorem State.writeTemplate_accepted {s : State} {l : LinkId} {t : BitVec 2} {bs : List Byte}
    (h : s.templateRefusal l t (Template.ofBytes bs) = none) :
    s.writeTemplate l t bs = .ok (s.modPort l fun p => p.setTemplate t (Template.ofBytes bs)).reevaluate := by
  rw [State.writeTemplate, h]

/-! ### PLAN -/

theorem SlotRule.ofCode_isNone_iff (b : Byte) : (SlotRule.ofCode b).isNone = true ↔ 6 < b.toNat := by
  revert b
  decide

/-- A test holds of some slot number. -/
theorem range_six_any (test : Nat → Bool) : (List.range 6).any test = true ↔ ∃ k : Fin 6, test k.val = true := by
  rw [List.any_eq_true]
  constructor
  · rintro ⟨i, hi, h⟩
    exact ⟨⟨i, List.mem_range.mp hi⟩, h⟩
  · rintro ⟨k, h⟩
    exact ⟨k.val, List.mem_range.mpr k.isLt, h⟩

/-- Every rule of a PLAN record's bytes is named and every length 0 or 20 to 65535 (R87, check 1). -/
def PlanBytesRuled (bs : List Byte) : Prop :=
  ∀ k : Fin 6, (byteAt bs (4 * k.val)).toNat ≤ 6
    ∧ (wordAt bs (4 * k.val + 2) = 0 ∨ 20 ≤ (wordAt bs (4 * k.val + 2)).toNat)

/-- Every template number of a PLAN record's bytes is 0 to 3 (R87, check 2). -/
def PlanBytesNumbered (bs : List Byte) : Prop := ∀ k : Fin 6, (byteAt bs (4 * k.val + 1)).toNat ≤ 3

theorem planBytesRuled_iff (bs : List Byte) : ((List.range 6).any fun k => (SlotRule.ofCode (byteAt bs (4 * k))).isNone
    || (wordAt bs (4 * k + 2) ≠ 0 && (wordAt bs (4 * k + 2)).toNat < Config.slotFloor)) = true ↔ ¬ PlanBytesRuled bs := by
  rw [range_six_any]
  simp only [Bool.or_eq_true, Bool.and_eq_true, decide_eq_true_eq, SlotRule.ofCode_isNone_iff, PlanBytesRuled,
    not_forall]
  exact exists_congr fun k => by rw [not_and_or, not_or, Nat.not_le, Nat.not_le]; rfl

theorem planBytesNumbered_iff (bs : List Byte) :
    ((List.range 6).any fun k => 3 < (byteAt bs (4 * k + 1)).toNat) = true ↔ ¬ PlanBytesNumbered bs := by
  rw [range_six_any]
  simp [PlanBytesNumbered]

theorem planOfBytes_not_ruled {bs : List Byte} (h : ¬ PlanBytesRuled bs) : planOfBytes bs = .error .badValue :=
  if_pos ((planBytesRuled_iff bs).mpr h)

theorem planOfBytes_not_numbered {bs : List Byte} (h : PlanBytesRuled bs) (hn : ¬ PlanBytesNumbered bs) :
    planOfBytes bs = .error .badIndex := by
  rw [planOfBytes, if_neg (mt (planBytesRuled_iff bs).mp (not_not.mpr h)), if_pos ((planBytesNumbered_iff bs).mpr hn)]

theorem SlotRule.ofCode_of_toNat {b : Byte} {rule : SlotRule} (h : b.toNat = rule.code.toNat) :
    SlotRule.ofCode b = some rule := by
  rw [BitVec.toNat_inj] at h
  subst h
  cases rule <;> rfl

/-- A PLAN record whose bytes hold a plan is read as that plan. -/
theorem planOfBytes_of_codes {bs : List Byte} {plan : Plan} (h : PlanBytesRuled bs)
    (hp : ∀ k : Fin 6, (byteAt bs (4 * k.val)).toNat = plan[k.val].rule.code.toNat
      ∧ (byteAt bs (4 * k.val + 1)).toNat = plan[k.val].template.toNat
      ∧ wordAt bs (4 * k.val + 2) = plan[k.val].length) : planOfBytes bs = .ok plan := by
  have hn : PlanBytesNumbered bs := fun k => by
    rw [(hp k).2.1]
    exact Nat.le_of_lt_succ plan[k.val].template.isLt
  rw [planOfBytes, if_neg (mt (planBytesRuled_iff bs).mp (not_not.mpr h)),
    if_neg (mt (planBytesNumbered_iff bs).mp (not_not.mpr hn))]
  congr 1
  refine Vector.ext fun i hi => ?_
  obtain ⟨hrule, htmpl, hlen⟩ := hp ⟨i, hi⟩
  have ht : (byteAt bs (4 * i + 1)).setWidth 2 = plan[i].template := by
    apply BitVec.eq_of_toNat_eq
    rw [BitVec.toNat_setWidth, htmpl]
    exact Nat.mod_eq_of_lt plan[i].template.isLt
  rw [tabulate_get]
  simp only [SlotRule.ofCode_of_toNat hrule, hlen, ht, Option.getD_some]

/-- Every slot of nonzero length that needs its template split finds it split (R87, check 3). -/
def Port.SplitsPlan (p : Port) (plan : Plan) : Prop :=
  ∀ k : Fin 6, plan[k.val].length ≠ 0 → plan[k.val].rule ∈ [SlotRule.head, .tail, .tailOrEvent] →
    (p.template plan[k.val].template).split ≠ none

theorem State.planRefusal_unsplit {s : State} {l : LinkId} {plan : Plan} (h : ¬ (s.port l).SplitsPlan plan) :
    s.planRefusal l plan = some .badValue := by
  refine if_pos ((openedSlots_any _ _).mpr ?_)
  simp only [Port.SplitsPlan, not_forall, not_not] at h
  obtain ⟨k, hk, hr, hs⟩ := h
  exact ⟨k, hk, by rw [Bool.and_eq_true, SlotRule.needsSplit_iff, Option.isNone_iff_eq_none]; exact ⟨hr, hs⟩⟩

theorem State.planRefusal_split {s : State} {l : LinkId} {plan : Plan} (h : (s.port l).SplitsPlan plan) :
    s.planRefusal l plan =
      if planFits l (s.port l).settings.rate (s.port l).template plan = false then some .slotTooShort else none := by
  rw [State.planRefusal, if_neg]
  · simp only [Bool.not_eq_true']
  · rw [openedSlots_any]
    rintro ⟨k, hk, hb⟩
    rw [Bool.and_eq_true, SlotRule.needsSplit_iff, Option.isNone_iff_eq_none] at hb
    exact h k hk hb.1 hb.2

theorem State.writePlan_refused {s : State} {l : LinkId} {bs : List Byte} {plan : Plan} {code : ResultCode}
    (h : planOfBytes bs = .ok plan) (hr : s.planRefusal l plan = some code) : s.writePlan l bs = .error code := by
  simp only [State.writePlan, h, hr]

theorem State.writePlan_accepted {s : State} {l : LinkId} {bs : List Byte} {plan : Plan}
    (h : planOfBytes bs = .ok plan) (hr : s.planRefusal l plan = none) :
    s.writePlan l bs = .ok (s.setPort l { s.port l with plan := plan }).reevaluate := by
  simp only [State.writePlan, h, hr]
  rfl

theorem State.writePlan_unread {s : State} {l : LinkId} {bs : List Byte} {code : ResultCode}
    (h : planOfBytes bs = .error code) : s.writePlan l bs = .error code := by
  simp only [State.writePlan, h]

/-! ### The restart of walks -/

/-- A walk that a plan write may restart (R88): the link RUNNING under the INTERNAL trigger, its timer stopped. -/
def Port.WalkStopped (p : Port) : Prop := p.state = .running ∧ p.settings.trigger = .internal ∧ p.slotTimer = none

theorem State.restartWalk_follows {s : State} {l : LinkId} {k : Fin 6} (h : (s.port l).WalkStopped)
    (hk : FollowsInWalk (s.port l) k) : s.restartWalk l = s.openSlot l k := by
  obtain ⟨hr, ht, hn⟩ := h
  unfold State.restartWalk
  rw [if_pos, State.openNext_of_follows hk]
  simp [(s.running_iff l).mpr hr, ht, hn, (Port.nextSlot_eq_some_iff _ k).mpr hk]

theorem State.restartWalk_stands {s : State} {l : LinkId}
    (h : ¬ (s.port l).WalkStopped ∨ ∀ k : Fin 6, (s.port l).plan[k.val].length = 0) : s.restartWalk l = s := by
  refine if_neg ?_
  simp only [Bool.and_eq_true, decide_eq_true_eq, Option.isNone_iff_eq_none, State.running_iff]
  rintro ⟨⟨⟨hr, ht⟩, hn⟩, hs⟩
  rcases h with h | h
  · exact h ⟨hr, ht, hn⟩
  · simp [(Port.nextSlot_eq_none_iff _).mpr h] at hs

/-- Settles O50: each table's checks by the lemma that names their refusal in its place, and an accepted record by the
state it leaves. -/
theorem routeTemplateAndPlanRecordsAreCheckedAndWritten :
    Obligations.RouteTemplateAndPlanRecordsAreCheckedAndWritten := by
  refine ⟨fun id bs s => ⟨RouteRecord.ofBytes_eq_none_iff bs, fun h => ?_, fun hp h => ?_, fun r hp h => ?route⟩,
    fun t => ⟨rfl, fun k h hk => ⟨Template.headBytes_eq h hk, t.headBytes_add_tailBytes⟩⟩, fun l t bs s => ?template,
    fun l bs s => ?plan, fun l s => ⟨fun k => State.restartWalk_follows, State.restartWalk_stands, rfl⟩⟩
  · rw [State.writeRecord_route, State.writeRoute_protected h]
  · rw [State.writeRecord_route, State.writeRoute_unprotected hp, h]
  case route =>
    intro x consistent n taken same
    rw [State.writeRecord_route]
    have refused {code : ResultCode} (hr : s.routeRefusal id r = some code) := State.writeRoute_refused hp h hr
    refine ⟨fun hk hc => refused (State.routeRefusal_inconsistent hk hc), fun hk hc hh => refused ?_,
      fun hk hc hn => refused ?_, fun hk hc hn ht => refused ?_, fun ha => ?_⟩
    · rw [State.routeRefusal_event hk hc, if_neg (Nat.not_le.mpr hh)]
    · rw [State.routeRefusal_field hk hc, if_pos hn]
    · rw [State.routeRefusal_field hk hc, if_neg (Nat.not_le.mpr hn), if_pos ((s.positionTaken_iff id r).mpr ht)]
    · refine ⟨_, State.writeRoute_accepted hp h ((s.routeRefusal_eq_none_iff id r).mpr ha), ?_, fun k hk => ?_, ?_⟩
      · rw [State.reevaluate_eq]; rfl
      · rw [State.reevaluate_route, State.setRoute_route, if_neg hk]
      · rw [State.reevaluate_route, State.setRoute_route_same]
        have kept (hs : same) : (x.rewritten r).held = r.nearest x.held := by
          rw [Route.rewritten_held, if_pos ((x.record.samePlace_iff r).mpr hs)]
        refine ⟨rfl, rfl, rfl, rfl, x.rewritten_settledRight r, fun hs => ?_, fun hs hl => ?_, fun hs hl hu => ?_,
          fun hs hl hu => ?_, State.reevaluate_again _⟩
        · rw [Route.rewritten_held, if_neg (mt (x.record.samePlace_iff r).mp hs)]
        · rw [kept hs, RouteRecord.nearest_below hl]
        · rw [kept hs, RouteRecord.nearest_above hl hu]
        · rw [kept hs, RouteRecord.nearest_within hl hu]
  case template =>
    intro p rec_ index lawful unsplit holdsAll fits
    classical
    rw [State.writeRecord_template]
    have hrefusal := s.templateRefusal_eq l t rec_
    have hlaw : rec_.lawful = false ↔ ¬ lawful := by rw [← Bool.not_eq_true, Template.lawful_iff]
    simp only [hlaw] at hrefusal
    refine ⟨fun (h : ¬ lawful ∨ (s.port l).Unsplit t rec_) => State.writeTemplate_refused ?_,
      fun hl (hu : ¬ (s.port l).Unsplit t rec_) (hh : ¬ s.HoldsAll l t rec_) => State.writeTemplate_refused ?_,
      fun hl (hu : ¬ (s.port l).Unsplit t rec_) (hh : s.HoldsAll l t rec_) (hf : ¬ (s.port l).FitsTemplate l t rec_) =>
        State.writeTemplate_refused ?_,
      fun hl (hu : ¬ (s.port l).Unsplit t rec_) (hh : s.HoldsAll l t rec_) (hf : (s.port l).FitsTemplate l t rec_) =>
        State.writeTemplate_accepted ?_⟩
    · rw [hrefusal]
      by_cases hl : lawful
      · rw [if_neg (not_not.mpr hl), if_pos (h.resolve_left (not_not.mpr hl))]
      · rw [if_pos hl]
    · rw [hrefusal, if_neg (not_not.mpr hl), if_neg hu, if_pos hh]
    · rw [hrefusal, if_neg (not_not.mpr hl), if_neg hu, if_neg (not_not.mpr hh), if_pos hf]
    · rw [hrefusal, if_neg (not_not.mpr hl), if_neg hu, if_neg (not_not.mpr hh), if_neg (not_not.mpr hf)]
  case plan =>
    rw [State.writeRecord_plan]
    refine ⟨fun h => State.writePlan_unread (planOfBytes_not_ruled h),
      fun h hn => State.writePlan_unread (planOfBytes_not_numbered h hn), fun plan hruled hcodes => ?_⟩
    have hread : planOfBytes bs = .ok plan := planOfBytes_of_codes hruled fun k => by
      obtain ⟨hr, ht, hlen⟩ := hcodes k
      refine ⟨hr.trans ?_, ht, hlen⟩
      cases plan[k.val].rule <;> rfl
    refine ⟨fun h => State.writePlan_refused hread (State.planRefusal_unsplit h),
      fun h hf => State.writePlan_refused hread ?_, fun h hf => State.writePlan_accepted hread ?_⟩
    · rw [State.planRefusal_split h, if_pos]
      rw [← Bool.not_eq_true, planFits_iff]
      exact hf
    · rw [State.planRefusal_split h, if_neg]
      rw [Bool.not_eq_false, planFits_iff]
      exact hf

end Sys2Proof.Machine

/-! PROOFS. Record writes, the management unit and every command as runs of changes: with the changes of the pieces,
what any step but a power-on reset can do. -/

namespace Sys2Proof.Machine

/-! ### Record writes -/

theorem State.reconfigure_reevaluate_evolves (s : State) (i : CueId) {c : CueConfig} (h : c.inRange = true) :
    s.Evolves (s.acceptCue i c) := by
  have written : s.Evolves (s.reconfigure i c) := .of_change (.cueRecord s i c h)
  unfold State.reconfigure at written
  unfold State.acceptCue
  dsimp only at written ⊢
  split
  · next hc => rwa [if_pos hc] at written
  · next hc =>
    rw [if_neg hc] at written
    exact written.trans (State.reevaluate_evolves _)

theorem State.writeCue_evolves {s u : State} {i : CueId} {bs : List Byte} (h : s.writeCue i bs = .ok u) : s.Evolves u := by
  unfold State.writeCue at h
  split at h
  · cases h
  · split at h
    · next hc =>
      cases h
      exact s.reconfigure_reevaluate_evolves i hc
    · cases h

theorem State.RouteAccepted.allowed {s : State} {id : RouteId} {r : RouteRecord} (h : s.RouteAccepted id r)
    (hp : s.management.protects id.val = false) : s.RouteAllowed id r := by
  rcases h with hk | ⟨hk, -, -⟩ | ⟨hk, hc, hpos, hfree⟩
  · exact ⟨hp, by simp [hk], by simp [hk], by simp [hk]⟩
  · exact ⟨hp, by simp [hk], by simp [hk], by simp [hk]⟩
  · obtain ⟨-, -, -, -, hln, hnh, hslew, -⟩ := hc
    refine ⟨hp, fun _ => ⟨hln, hnh, fun hs => hslew fun h0 => hs (BitVec.eq_of_toNat_eq h0)⟩, fun _ => hpos,
      fun _ k hk => ?_⟩
    rw [← Bool.not_eq_true]
    intro hfills
    simp only [RouteRecord.fills, Bool.and_eq_true, decide_eq_true_eq, BitVec.toNat_inj, and_assoc] at hfills
    exact hfree ⟨k, hk, hfills⟩

theorem State.writeRoute_evolves {s u : State} {id : RouteId} {bs : List Byte} (h : s.writeRoute id bs = .ok u) :
    s.Evolves u := by
  unfold State.writeRoute at h
  split at h
  · cases h
  · next hp =>
    split at h
    · cases h
    · next r hr =>
      split at h
      · cases h
      · next ha =>
        cases h
        have allowed := ((s.routeRefusal_eq_none_iff id r).mp ha).allowed (Bool.not_eq_true _ ▸ hp)
        exact (State.Evolves.of_change (.routeRecord s id r allowed)).trans (State.reevaluate_evolves _)

theorem State.templateRefusal_eq_none {s : State} {l : LinkId} {t : BitVec 2} {rec : Template}
    (h : s.templateRefusal l t rec = none) : rec.lawful = true ∧ s.HoldsAll l t rec := by
  classical
  rw [State.templateRefusal_eq] at h
  split at h
  · cases h
  · next hl =>
    split at h
    · cases h
    · split at h
      · cases h
      · next hh => exact ⟨Bool.not_eq_false _ ▸ hl, not_not.mp hh⟩

theorem State.writeTemplate_evolves {s u : State} {l : LinkId} {t : BitVec 2} {bs : List Byte}
    (h : s.writeTemplate l t bs = .ok u) : s.Evolves u := by
  unfold State.writeTemplate at h
  split at h
  · cases h
  · next ha =>
    cases h
    obtain ⟨hlawful, hholds⟩ := State.templateRefusal_eq_none ha
    exact (State.Evolves.of_change (.template s l t _ hlawful hholds)).trans (State.reevaluate_evolves _)

theorem State.writePlan_evolves {s u : State} {l : LinkId} {bs : List Byte} (h : s.writePlan l bs = .ok u) :
    s.Evolves u := by
  unfold State.writePlan at h
  split at h
  · cases h
  · split at h
    · cases h
    · cases h
      exact (State.marks_evolves rfl rfl rfl rfl rfl rfl rfl rfl).trans (State.reevaluate_evolves _)

theorem State.linkRefusal_eq_none {s : State} {l : LinkId} {r : LinkSettings} (h : s.linkRefusal l r = none) :
    s.LinkDKept l r := by
  by_contra hk
  rw [State.linkRefusal_fixed hk] at h
  cases h

theorem State.writeLink_evolves {s u : State} {l : LinkId} {bs : List Byte} (h : s.writeLink l bs = .ok u) :
    s.Evolves u := by
  unfold State.writeLink at h
  split at h
  · cases h
  · next r hr =>
    split at h
    · cases h
    · next ha =>
      cases h
      obtain ⟨⟨-, -, -, -, h1, h3, h15⟩, hev, haf⟩ := LinkSettings.ofBytes_eq_some hr
      exact .of_change (.settings s l r ⟨by rw [hev, haf]; exact ⟨h1, h3, h15⟩, State.linkRefusal_eq_none ha⟩)

theorem State.writeGlobal_evolves {s u : State} {bs : List Byte} (h : s.writeGlobal bs = .ok u) : s.Evolves u := by
  unfold State.writeGlobal at h
  split at h
  · cases h
    exact .of_change (.globals s _)
  · cases h

theorem State.writeRecord_evolves {s u : State} {t : TableId} {i : Nat} {bs : List Byte}
    (h : s.writeRecord t i bs = .ok u) : s.Evolves u := by
  unfold State.writeRecord at h
  split at h
  · split at h
    · exact State.writeCue_evolves h
    · exact State.writeRoute_evolves h
    · exact State.writeTemplate_evolves h
    · exact State.writePlan_evolves h
    · exact State.writeLink_evolves h
    · exact State.writeGlobal_evolves h
  · cases h

/-! ### Record lengths -/

theorem TableId.recordBytes_pos (t : TableId) : 0 < t.recordBytes := by cases t <;> decide

theorem planBytes_length (p : Plan) : (planBytes p).length = 24 := by
  simp [planBytes, Slot.toBytes, wordBytes, List.length_flatMap]

theorem State.readRecord_length (s : State) (t : TableId) (i : Nat) : (s.readRecord t i).length ≤ t.recordBytes := by
  unfold State.readRecord
  split
  · split
    · exact le_of_eq rfl
    · exact le_of_eq rfl
    · exact le_of_eq rfl
    · exact (planBytes_length _).le
    · exact le_of_eq rfl
    · exact le_of_eq rfl
  · exact Nat.zero_le _

theorem State.getRecords_length (n : Nat) : ∀ s : State,
    (s.getRecords n).2.length ≤ n * s.management.cursorTable.recordBytes := by
  induction n with
  | zero => exact fun _ => Nat.zero_le _
  | succ n ih =>
    intro s
    have rest : (State.getRecords (s.modManagement Management.advance) n).2.length
        ≤ n * s.management.cursorTable.recordBytes := ih _
    have first := s.readRecord_length s.management.cursorTable s.management.cursorIndex
    simp only [State.getRecords, List.length_append, Nat.succ_mul]
    omega

theorem TableId.recordsPerGet_fit (t : TableId) : t.recordsPerGet * t.recordBytes ≤ 48 := by cases t <;> decide

/-! ### The common steps of a request -/

theorem State.actOnResetArm_evolves (s : State) (t : RequestTraits) : s.Evolves (s.actOnResetArm t) :=
  State.modManagement_evolves (.of_latches rfl rfl (.inl rfl) .inl rfl rfl id)

theorem State.discardPartial_evolves (s : State) : s.Evolves s.discardPartial := by
  unfold State.discardPartial
  split
  · exact .refl s
  · refine (State.modManagement_evolves (.of_latches rfl rfl (.inr rfl) .inl rfl rfl id)).trans
      (State.modFlags_evolves _ _)

theorem State.dropLatch_evolves (s : State) (t : RequestTraits) : s.Evolves (s.dropLatch t) := by
  unfold State.dropLatch
  split
  · exact State.modManagement_evolves (.of_latches rfl rfl (.inl rfl) .inl rfl rfl id)
  · exact .refl s

theorem State.loseRequest_evolves (s : State) (t : RequestTraits) : s.Evolves (s.loseRequest t) :=
  ((s.dropLatch_evolves t).trans (State.discardPartial_evolves _)).trans (State.modFlags_evolves _ _)

theorem State.answerWith_evolves (s : State) (t : RequestTraits) (tag code : Byte) (r : ResultCode) :
    s.Evolves (s.answerWith t tag code r) := by
  refine State.offerReply_evolves _ _ _ _ ?_
  split
  · exact Nat.le_of_ble_eq_true rfl
  · exact Nat.zero_le _

theorem State.discardPartial_partialRecord (s : State) : s.discardPartial.management.partialRecord = [] := by
  rw [State.discardPartial_eq]

/-- A request's own work starts with the buffer empty, unless the request keeps it, and a guarded one's with no FILL in
flight (R137, R142, R147). -/
theorem State.takeRequest_evolves {s : State} {t : RequestTraits} {tag code : Byte} {work : State → State}
    (hw : ∀ u : State, (t.keepsPartial = false → u.management.partialRecord = []) →
      (t.guarded = true → u.management.fill = none) → u.Evolves (work u)) : s.Evolves (s.takeRequest t tag code work) := by
  refine (s.actOnResetArm_evolves t).trans ?_
  unfold State.takeRequest
  dsimp only
  generalize s.actOnResetArm t = u
  split
  · exact u.loseRequest_evolves t
  · have kept : u.Evolves (if t.keepsPartial then u else u.discardPartial) := by
      split
      · exact .refl u
      · exact u.discardPartial_evolves
    have empty : t.keepsPartial = false →
        (if t.keepsPartial then u else u.discardPartial).management.partialRecord = [] := fun h => by
      rw [if_neg (by simp [h])]
      exact u.discardPartial_partialRecord
    refine kept.trans ?_
    generalize (if t.keepsPartial then u else u.discardPartial) = v at empty
    split
    · exact v.discardPartial_evolves.trans (State.answerWith_evolves _ _ _ _ _)
    · split
      · exact (v.dropLatch_evolves t).trans (State.answerWith_evolves _ _ _ _ _)
      · next hbusy =>
        refine hw v empty fun hg => ?_
        simpa [State.busy, hg] using hbusy

/-- A request whose work asks for none of the guards. -/
theorem State.takeRequest_evolves_of_all {s : State} {t : RequestTraits} {tag code : Byte} {work : State → State}
    (hw : ∀ u : State, u.Evolves (work u)) : s.Evolves (s.takeRequest t tag code work) :=
  State.takeRequest_evolves fun u _ _ => hw u

/-! ### ARM to CLEAR -/

theorem State.takeArm_evolves (s : State) (tag : Byte) (args : List Byte) : s.Evolves (s.takeArm tag args) :=
  State.takeRequest_evolves_of_all fun _ =>
    (State.modManagement_evolves (.of_latches rfl rfl (.inl rfl) .inl rfl rfl id)).trans (State.answer_evolves _ _ _ _)

theorem State.takeDisarm_evolves (s : State) (tag : Byte) (args : List Byte) : s.Evolves (s.takeDisarm tag args) :=
  State.takeRequest_evolves_of_all fun _ =>
    (State.modManagement_evolves (.of_latches rfl rfl (.inl rfl) .inl rfl rfl id)).trans (State.answer_evolves _ _ _ _)

theorem State.statusRecord_length (s : State) (arm : Bool) : (s.statusRecord arm).length = 38 := rfl

theorem State.takeStatus_evolves (s : State) (tag : Byte) (args : List Byte) : s.Evolves (s.takeStatus tag args) :=
  State.takeRequest_evolves_of_all fun u =>
    State.offerReply_evolves _ _ _ _ ((u.statusRecord_length _).le.trans (by decide))

theorem State.clearFlags_evolves (s : State) (sel : List Byte) : s.Evolves (s.clearFlags sel) := by
  have each : ∀ (ls : List LinkId) (u : State), u.Evolves
      (ls.foldl (fun s l => s.modLinkFlags l fun f => f.clearBy (wordAt sel (1 + 2 * l.number))) u) := by
    intro ls
    induction ls with
    | nil => exact State.Evolves.refl
    | cons l rest ih => exact fun u => (u.modLinkFlags_evolves l _).trans (ih _)
  exact (s.modFlags_evolves _).trans (each _ _)

theorem State.takeClear_evolves (s : State) (tag : Byte) (args : List Byte) : s.Evolves (s.takeClear tag args) := by
  refine State.takeRequest_evolves_of_all fun u => ?_
  split
  · exact u.answer_evolves _ _ _
  · exact (u.clearFlags_evolves args).trans (State.answer_evolves _ _ _ _)

/-! ### CURSOR, PUT, GET -/

theorem State.moveCursor_evolves {s : State} (args : List Byte) (h : s.management.partialRecord = []) :
    s.Evolves (s.moveCursor args).2 := by
  unfold State.moveCursor
  split
  · exact .refl s
  · split
    · exact .refl s
    · next t _ =>
      split
      · exact .refl s
      · next hsize =>
        refine .of_change (.management s _ ⟨fun hm => ?_, fun hl => ⟨hl, rfl, rfl⟩⟩)
        obtain ⟨-, -, hfill, hbound⟩ := hm
        exact ⟨Nat.not_le.mp hsize, h ▸ t.recordBytes_pos, hfill, hbound⟩

theorem State.takeCursor_evolves (s : State) (tag : Byte) (args : List Byte) : s.Evolves (s.takeCursor tag args) :=
  State.takeRequest_evolves fun _ hp _ =>
    (State.moveCursor_evolves args (hp rfl)).trans (State.answerWith_evolves _ _ _ _ _)

theorem Management.advance_change (m : Management) : m.Change m.advance where
  lawful := fun ⟨hi, hp, hf, hb⟩ => by
    refine ⟨?_, hp, hf, hb⟩
    unfold Management.advance
    dsimp only
    split
    · assumption
    · exact (Nat.zero_le _).trans_lt hi
  locked h := ⟨h, rfl, rfl⟩

/-- Bytes too few for a record stay in the buffer (R143). -/
theorem State.keepPart_evolves {s : State} {bytes : List Byte} (hf : s.management.fill = none)
    (hb : bytes.length < s.management.cursorTable.recordBytes) :
    s.Evolves (s.modManagement fun m => { m with partialRecord := bytes }) :=
  .of_change (.management s _
    ⟨fun ⟨hi, _, _, hbo⟩ => ⟨hi, hb, fun h => absurd hf h, hbo⟩, fun h => ⟨h, rfl, rfl⟩⟩)

theorem State.putBytes_evolves (fuel : Nat) : ∀ {s : State} (written : Nat) {bytes : List Byte}, bytes.length ≤ fuel →
    s.management.fill = none → s.Evolves (s.putBytes written fuel bytes).state := by
  induction fuel with
  | zero =>
    intro s written bytes hl hf
    exact State.keepPart_evolves hf (hl.trans_lt (TableId.recordBytes_pos _))
  | succ fuel ih =>
    intro s written bytes hl hf
    unfold State.putBytes
    dsimp only
    split
    · next hb => exact State.keepPart_evolves hf hb
    · next hb =>
      split
      · exact State.keepPart_evolves hf (TableId.recordBytes_pos _)
      · next u hu =>
        have hpos := TableId.recordBytes_pos s.management.cursorTable
        refine ((State.writeRecord_evolves hu).trans (State.modManagement_evolves (Management.advance_change _))).trans
          (ih _ ?_ ?_)
        · rw [List.length_drop]; omega
        · show u.management.fill = none
          rw [State.writeRecord_management hu]
          exact hf

theorem State.putWork_evolves {s : State} (tag : Byte) (args : List Byte) (h : s.management.fill = none) :
    s.Evolves (s.putWork tag args) := by
  have started : s.Evolves (s.modManagement fun m => { m with armLatch := false, cursorMode := .write }) :=
    State.modManagement_evolves (.of_latches rfl rfl (.inl rfl) .inl rfl rfl id)
  refine started.trans ?_
  replace h : (s.modManagement fun m => { m with armLatch := false, cursorMode := .write }).management.fill = none := h
  unfold State.putWork
  dsimp only
  generalize (s.modManagement fun m => { m with armLatch := false, cursorMode := .write }) = u at h
  have put : u.Evolves (u.putBytes 0 _ (u.management.partialRecord ++ args)).state := State.putBytes_evolves _ 0 le_rfl h
  refine put.trans ?_
  split
  · exact (State.restartWalks_evolves _).trans (State.offerReply_evolves _ _ _ _ (Nat.le_of_ble_eq_true rfl))
  · exact State.offerReply_evolves _ _ _ _ (Nat.le_of_ble_eq_true rfl)

theorem State.takePut_evolves (s : State) (tag : Byte) (args : List Byte) : s.Evolves (s.takePut tag args) :=
  State.takeRequest_evolves fun _ _ hf => State.putWork_evolves tag args (hf rfl)

theorem State.getRecords_evolves (n : Nat) : ∀ s : State, s.Evolves (s.getRecords n).1 := by
  induction n with
  | zero => exact State.Evolves.refl
  | succ n ih => exact fun s => (State.modManagement_evolves (Management.advance_change _)).trans (ih _)

theorem State.getWork_evolves (s : State) (tag : Byte) (args : List Byte) : s.Evolves (s.getWork tag args) := by
  unfold State.getWork
  split
  · exact s.answer_evolves _ _ _
  · refine ((s.getRecords_evolves _).trans
      (State.modManagement_evolves (.of_latches rfl rfl (.inl rfl) .inl rfl rfl id))).trans
        (State.offerReply_evolves _ _ _ _ ((s.getRecords_length _).trans ?_))
    exact (Nat.mul_le_mul_right _ (Nat.min_le_right _ _)).trans (TableId.recordsPerGet_fit _)

theorem State.takeGet_evolves (s : State) (tag : Byte) (args : List Byte) : s.Evolves (s.takeGet tag args) := by
  refine State.takeRequest_evolves_of_all fun u => ?_
  split
  · exact u.answer_evolves _ _ _
  · exact u.getWork_evolves _ _

/-! ### FILL -/

theorem State.fillWork_evolves {s : State} (tag : Byte) (args : List Byte) (h : s.management.partialRecord = []) :
    s.Evolves (s.fillWork tag args) := by
  have started : s.Evolves (s.modManagement fun m => { m with armLatch := false }) :=
    State.modManagement_evolves (.of_latches rfl rfl (.inl rfl) .inl rfl rfl id)
  refine started.trans ?_
  unfold State.fillWork
  dsimp only
  split
  · exact State.answer_evolves _ _ _ _
  · exact State.modManagement_evolves (.of_latches rfl rfl (.inl rfl) (fun _ => .inr h) rfl rfl id)

theorem State.takeFill_evolves (s : State) (tag : Byte) (args : List Byte) : s.Evolves (s.takeFill tag args) :=
  State.takeRequest_evolves fun _ hp _ => State.fillWork_evolves tag args (hp rfl)

theorem State.endFill_evolves (s : State) (job : FillJob) (r : ResultCode) (written : Nat) :
    s.Evolves (s.endFill job r written) :=
  (State.modManagement_evolves (.of_latches rfl rfl (.inl rfl) (fun h => absurd rfl h) rfl rfl id)).trans
    (State.offerReply_evolves _ _ _ _ (Nat.le_of_ble_eq_true rfl))

theorem State.advanceFill_evolves {s : State} (job : FillJob) (h : s.management.fill ≠ none) :
    s.Evolves (s.advanceFill job) := by
  have counted : s.Evolves (s.modManagement fun m => { m with fillNext := m.fillNext + 1 }) :=
    State.modManagement_evolves (.of_latches rfl rfl (.inl rfl) .inl rfl rfl id)
  refine counted.trans ?_
  unfold State.advanceFill
  dsimp only
  split
  · exact State.endFill_evolves _ _ _ _
  · exact State.modManagement_evolves (.of_latches rfl rfl (.inl rfl) (fun _ => .inl h) rfl rfl id)

theorem State.restartWalks_management (s : State) : s.restartWalks.management = s.management := by
  rw [State.restartWalks_eq]

theorem State.fillStep_evolves {s : State} (job : FillJob) (h : s.management.fill ≠ none) :
    s.Evolves (s.fillStep job) := by
  unfold State.fillStep
  split
  · exact s.endFill_evolves _ _ _
  · next u hu =>
    rw [← State.writeRecord_management hu] at h
    refine (State.writeRecord_evolves hu).trans ?_
    split
    · exact u.restartWalks_evolves.trans (State.advanceFill_evolves _ (by rwa [State.restartWalks_management]))
    · exact State.advanceFill_evolves _ h

/-! ### OVERRIDE to RESET -/

theorem State.setOverride_evolves (s : State) (c : CueId) (v : Option Word) :
    s.Evolves (s.modCue c fun e => { e with override := v }) :=
  State.modCue_evolves ⟨rfl, .inl, fun _ h => h⟩

theorem State.takeOverride_evolves (s : State) (tag : Byte) (args : List Byte) : s.Evolves (s.takeOverride tag args) := by
  refine State.takeRequest_evolves_of_all fun u => ?_
  split
  · exact u.answer_evolves _ _ _
  · exact (u.setOverride_evolves _ _).trans (State.answer_evolves _ _ _ _)

theorem State.takeRelease_evolves (s : State) (tag : Byte) (args : List Byte) : s.Evolves (s.takeRelease tag args) := by
  refine State.takeRequest_evolves_of_all fun u => ?_
  split
  · exact u.answer_evolves _ _ _
  · exact (u.setOverride_evolves _ _).trans (State.answer_evolves _ _ _ _)

theorem State.takeFreeze_evolves (s : State) (tag : Byte) (args : List Byte) : s.Evolves (s.takeFreeze tag args) :=
  State.takeRequest_evolves_of_all fun u => u.enterFreezing_evolves.trans (State.answer_evolves _ _ _ _)

theorem State.takeResume_evolves (s : State) (tag : Byte) (args : List Byte) : s.Evolves (s.takeResume tag args) :=
  State.takeRequest_evolves_of_all fun u => u.enterResuming_evolves.trans (State.answer_evolves _ _ _ _)

theorem State.onNamedLink_evolves {s : State} {tag n : Byte} {work : State → LinkId → ResultCode × State}
    (hw : ∀ (u : State) (l : LinkId), u.Evolves (work u l).2) : s.Evolves (s.onNamedLink tag n work) := by
  refine State.takeRequest_evolves_of_all fun u => ?_
  split
  · exact u.answer_evolves _ _ _
  · exact (hw u _).trans (State.answer_evolves _ _ _ _)

theorem State.takeLinkStart_evolves (s : State) (tag n : Byte) : s.Evolves (s.takeLinkStart tag n) :=
  State.onNamedLink_evolves State.linkStart_evolves

theorem State.takeLinkStop_evolves (s : State) (tag n : Byte) : s.Evolves (s.takeLinkStop tag n) :=
  State.onNamedLink_evolves State.linkStop_evolves

theorem State.takeLinkReset_evolves (s : State) (tag n : Byte) : s.Evolves (s.takeLinkReset tag n) :=
  State.onNamedLink_evolves State.linkReset_evolves

theorem State.takeLinkBadAction_evolves (s : State) (tag n : Byte) : s.Evolves (s.takeLinkBadAction tag n) :=
  State.onNamedLink_evolves fun u _ => .refl u

theorem State.takeLink_evolves (s : State) (tag : Byte) (args : List Byte) : s.Evolves (s.takeLink tag args) := by
  unfold State.takeLink
  split
  · exact State.takeRequest_evolves_of_all fun u => u.answer_evolves _ _ _
  · split
    · exact s.takeLinkStart_evolves _ _
    · exact s.takeLinkStop_evolves _ _
    · exact s.takeLinkReset_evolves _ _
    · exact s.takeLinkBadAction_evolves _ _

theorem State.protectRange_evolves (s : State) (args : List Byte) : s.Evolves (s.protectRange args).2 := by
  unfold State.protectRange
  split
  · exact .refl s
  · split
    · exact .refl s
    · next hlock =>
      split
      · exact .refl s
      · next hrange =>
        refine .of_change (.management s _ ⟨fun ⟨hi, hp, hf, _⟩ => ⟨hi, hp, hf, ?_⟩, fun h => absurd h hlock⟩)
        simp only [Bool.or_eq_true, decide_eq_true_eq, not_or, Nat.not_lt] at hrange
        exact hrange.1

theorem State.takeProtect_evolves (s : State) (tag : Byte) (args : List Byte) : s.Evolves (s.takeProtect tag args) :=
  State.takeRequest_evolves_of_all fun u =>
    ((u.dropLatch_evolves _).trans (State.protectRange_evolves _ _)).trans (State.answer_evolves _ _ _ _)

theorem State.takeLock_evolves (s : State) (tag : Byte) (args : List Byte) : s.Evolves (s.takeLock tag args) := by
  refine State.takeRequest_evolves_of_all fun u => (u.dropLatch_evolves guardedRequest).trans ?_
  dsimp only
  split
  · exact State.answer_evolves _ _ _ _
  · exact (State.modManagement_evolves (.of_latches rfl rfl (.inl rfl) .inl rfl rfl fun _ => rfl)).trans
      (State.answer_evolves _ _ _ _)

theorem State.takeReset_evolves (s : State) (tag : Byte) (args : List Byte) : s.Evolves (s.takeReset tag args) := by
  unfold State.takeReset
  refine State.takeRequest_evolves_of_all fun u => ?_
  split
  · exact u.answer_evolves _ _ _
  · split
    · exact u.answer_evolves _ _ _
    · next hlock => exact .of_change (.partReset u (Bool.not_eq_true _ ▸ hlock))

theorem State.takeResetArm_evolves (s : State) (tag : Byte) (args : List Byte) : s.Evolves (s.takeResetArm tag args) :=
  State.takeRequest_evolves_of_all fun u => u.answer_evolves _ _ _

theorem State.takeUnknown_evolves (s : State) (tag code : Byte) (args : List Byte) :
    s.Evolves (s.takeUnknown tag code args) :=
  State.takeRequest_evolves_of_all fun u => u.answer_evolves _ _ _

theorem State.takeShort_evolves (s : State) (tag : Option Byte) : s.Evolves (s.takeShort tag) :=
  State.takeRequest_evolves_of_all fun u => u.answer_evolves _ _ _

theorem State.dispatchRequest_evolves (s : State) (tag code : Byte) (args : List Byte) :
    s.Evolves (s.dispatchRequest tag code args) := by
  unfold State.dispatchRequest
  split
  · exact s.takeArm_evolves tag args
  · exact s.takeDisarm_evolves tag args
  · exact s.takeStatus_evolves tag args
  · exact s.takeCursor_evolves tag args
  · exact s.takePut_evolves tag args
  · exact s.takeGet_evolves tag args
  · exact s.takeFill_evolves tag args
  · exact s.takeOverride_evolves tag args
  · exact s.takeRelease_evolves tag args
  · exact s.takeFreeze_evolves tag args
  · exact s.takeResume_evolves tag args
  · exact s.takeLink_evolves tag args
  · exact s.takeClear_evolves tag args
  · exact s.takeProtect_evolves tag args
  · exact s.takeLock_evolves tag args
  · exact s.takeResetArm_evolves tag args
  · exact s.takeReset_evolves tag args
  · exact s.takeUnknown_evolves tag code args

theorem State.handleRequest_evolves (s : State) (payload : List Byte) : s.Evolves (s.handleRequest payload) := by
  unfold State.handleRequest
  split
  · exact s.takeShort_evolves none
  · exact s.takeShort_evolves _
  · exact s.dispatchRequest_evolves _ _ _

/-! ### Every command -/

theorem State.acceptFrame_evolves {s : State} {l : LinkId} (f : Frame) (hr : (s.port l).state = .running) :
    s.Evolves (s.acceptFrame l f) := by
  unfold State.acceptFrame
  split
  · exact State.takeUpdate_evolves f hr
  · split
    · exact s.handleRequest_evolves _
    · exact s.modLinkFlags_evolves l _

theorem State.receiveFrame_evolves (s : State) (l : LinkId) (bytes : List Byte) : s.Evolves (s.receiveFrame l bytes) := by
  unfold State.receiveFrame
  split
  · exact s.frameArrives_evolves l _ fun u hr => u.acceptFrame_evolves _ hr
  · exact (s.symbolArrives_evolves l _).trans (State.frameFails_evolves _ l)

/-- A request row is the arrival of its frame, handed to work that any state lets run. -/
theorem State.requestArrives_evolves (s : State) (seq : Byte) {work : State → State}
    (hw : ∀ u : State, u.Evolves (work u)) : s.Evolves (s.frameArrives .d seq work) :=
  s.frameArrives_evolves .d seq fun u _ => hw u

theorem State.slotTimerExpiry_evolves (s : State) (l : LinkId) :
    ∃ t, exec (.slotTimerExpiry l) s = .next t ∧ s.Evolves t := by
  refine ⟨_, rfl, ?_⟩
  split
  · split
    · next hr =>
      refine (s.reachTime_evolves _).trans (State.openNext_evolves ?_)
      exact (s.running_iff l).mp hr
    · exact .refl s
  · exact .refl s

theorem State.syncEdge_evolves (s : State) (l : LinkId) : ∃ t, exec (.syncEdge l) s = .next t ∧ s.Evolves t := by
  refine ⟨_, rfl, ?_⟩
  split
  · next h => exact State.openNext_evolves ((s.running_iff l).mp h.2.1)
  · exact .refl s

theorem State.transmitComplete_evolves (s : State) (l : LinkId) :
    ∃ t, exec (.transmitComplete l) s = .next t ∧ s.Evolves t := by
  refine ⟨_, rfl, ?_⟩
  split
  · next x _ =>
    refine (s.reachTime_evolves x.complete).trans (State.PortChange.evolves ?_)
    exact .of_less rfl rfl (fun hq hr => ⟨(hq hr).1, (hq hr).2.1, (hq hr).2.2.1, rfl⟩) (.refl _) (.inr rfl) (.inr rfl)
      (.inl rfl) fun _ _ h => h
  · exact .refl s

theorem State.fillWrite_evolves (s : State) : ∃ t, exec .fillWrite s = .next t ∧ s.Evolves t := by
  refine ⟨_, rfl, ?_⟩
  split
  · next job h =>
    exact (s.reachTime_evolves job.due).trans (State.fillStep_evolves job (by rw [State.reachTime, h]; simp))
  · exact .refl s

/-- Every command but a power-on reset is a run of changes. -/
theorem exec_evolves (c : Instr) (s : State) (hc : ∀ rate1 rate0, c ≠ .powerOnReset rate1 rate0) :
    ∃ t, exec c s = .next t ∧ s.Evolves t := by
  cases c with
  | powerOnReset rate1 rate0 => exact absurd rfl (hc rate1 rate0)
  | millisecondTick order => exact ⟨_, rfl, s.startTick_evolves.trans (State.tickParts_evolves _ _)⟩
  | freshLimitExpiry cue => exact ⟨_, rfl, s.testFresh_evolves cue⟩
  | holdLimitExpiry cue => exact ⟨_, rfl, s.testHold_evolves cue⟩
  | stepTimeout => exact ⟨_, rfl, s.testBatchWindow_evolves⟩
  | freezeLate => exact ⟨_, rfl, s.testFreezeWindow_evolves⟩
  | resumeLate => exact ⟨_, rfl, s.testResumeWindow_evolves⟩
  | startTimeout link =>
    refine ⟨_, rfl, ?_⟩
    split
    · exact s.timeOutStart_evolves link
    · exact .refl s
  | idleFillStartUp link =>
    refine ⟨_, rfl, ?_⟩
    split
    · exact s.enterRunning_evolves link
    · exact .refl s
  | signalLost link =>
    refine ⟨_, rfl, ?_⟩
    split
    · exact s.loseSignal_evolves link
    · exact .refl s
  | signalReturnLinkD =>
    refine ⟨_, rfl, ?_⟩
    split
    · exact s.enterStarting_evolves .d
    · exact .refl s
  | slotTimerExpiry link => exact s.slotTimerExpiry_evolves link
  | syncEdge link => exact s.syncEdge_evolves link
  | transmitComplete link => exact s.transmitComplete_evolves link
  | frameReceived link bytes => exact ⟨_, rfl, s.receiveFrame_evolves link bytes⟩
  | arm seq tag args => exact ⟨_, rfl, s.requestArrives_evolves seq fun u => u.takeArm_evolves tag args⟩
  | disarm seq tag args => exact ⟨_, rfl, s.requestArrives_evolves seq fun u => u.takeDisarm_evolves tag args⟩
  | status seq tag args => exact ⟨_, rfl, s.requestArrives_evolves seq fun u => u.takeStatus_evolves tag args⟩
  | cursor seq tag args => exact ⟨_, rfl, s.requestArrives_evolves seq fun u => u.takeCursor_evolves tag args⟩
  | put seq tag args => exact ⟨_, rfl, s.requestArrives_evolves seq fun u => u.takePut_evolves tag args⟩
  | get seq tag args => exact ⟨_, rfl, s.requestArrives_evolves seq fun u => u.takeGet_evolves tag args⟩
  | fill seq tag args => exact ⟨_, rfl, s.requestArrives_evolves seq fun u => u.takeFill_evolves tag args⟩
  | fillWrite => exact s.fillWrite_evolves
  | override seq tag args => exact ⟨_, rfl, s.requestArrives_evolves seq fun u => u.takeOverride_evolves tag args⟩
  | release seq tag args => exact ⟨_, rfl, s.requestArrives_evolves seq fun u => u.takeRelease_evolves tag args⟩
  | freeze seq tag args => exact ⟨_, rfl, s.requestArrives_evolves seq fun u => u.takeFreeze_evolves tag args⟩
  | resume seq tag args => exact ⟨_, rfl, s.requestArrives_evolves seq fun u => u.takeResume_evolves tag args⟩
  | linkStart seq tag n extra => exact ⟨_, rfl, s.requestArrives_evolves seq fun u => u.takeLinkStart_evolves tag n⟩
  | linkStop seq tag n extra => exact ⟨_, rfl, s.requestArrives_evolves seq fun u => u.takeLinkStop_evolves tag n⟩
  | linkReset seq tag n extra => exact ⟨_, rfl, s.requestArrives_evolves seq fun u => u.takeLinkReset_evolves tag n⟩
  | clear seq tag args => exact ⟨_, rfl, s.requestArrives_evolves seq fun u => u.takeClear_evolves tag args⟩
  | protect seq tag args => exact ⟨_, rfl, s.requestArrives_evolves seq fun u => u.takeProtect_evolves tag args⟩
  | lock seq tag args => exact ⟨_, rfl, s.requestArrives_evolves seq fun u => u.takeLock_evolves tag args⟩
  | resetArm seq tag args => exact ⟨_, rfl, s.requestArrives_evolves seq fun u => u.takeResetArm_evolves tag args⟩
  | reset seq tag args => exact ⟨_, rfl, s.requestArrives_evolves seq fun u => u.takeReset_evolves tag args⟩
  | unknownRequest seq tag code args =>
    exact ⟨_, rfl, s.requestArrives_evolves seq fun u => u.takeUnknown_evolves tag code args⟩
  | lineSymbolReceived link symbol => exact ⟨_, rfl, s.symbolArrives_evolves link symbol⟩
  | frameEndedEarly link cause =>
    exact ⟨_, rfl, ((s.symbolArrives_evolves link _).trans (State.symbolArrives_evolves _ link _)).trans
      (State.frameFails_evolves _ link)⟩
  | shortRequestPayload seq tag => exact ⟨_, rfl, s.requestArrives_evolves seq fun u => u.takeShort_evolves tag⟩
  | linkBadAction seq tag n action extra =>
    exact ⟨_, rfl, s.requestArrives_evolves seq fun u => u.takeLinkBadAction_evolves tag n⟩

end Sys2Proof.Machine

/-! PROOFS. The laws that every step keeps (Safety.lean): each kept by every change of a piece of the state, and met by
the state after a reset. -/

namespace Sys2Proof.Machine

/-! ### A step is a run of changes or a power-on reset -/

theorem exec_powerOnReset (rate1 rate0 : Bool) (s : State) : exec (.powerOnReset rate1 rate0) s =
    .next { s with now := 0, nextTick := Config.millisecond, rate1 := rate1, rate0 := rate0 }.partReset := rfl

theorem step_nil {s : State} (h : s.pending = []) : step s = .next s.idle := by
  unfold step
  split
  · rfl
  · next h' => rw [h] at h'; cases h'

theorem step_cons {s : State} {c : Instr} {rest : List Instr} (h : s.pending = c :: rest) :
    step s = exec c { s with pending := rest } := by
  unfold step
  split
  · next h' => rw [h] at h'; cases h'
  · next h' => rw [h] at h'; cases h'; rfl

/-- Settles O1. -/
theorem stepRunsTheFrontCommand : Obligations.StepRunsTheFrontCommand := fun _ _ _ => step_cons

/-- Settles O2. -/
theorem emptyQueueIdles : Obligations.EmptyQueueIdles := fun _ => step_nil

/-- A step that is no power-on reset is a run of changes, from the state with the command taken out of the queue. -/
theorem step_evolves {s t : State} (h : step s = .next t)
    (hc : ∀ rate1 rate0 rest, s.pending ≠ .powerOnReset rate1 rate0 :: rest) :
    ∃ rest, { s with pending := rest }.Evolves t := by
  cases hp : s.pending with
  | nil =>
    rw [step_nil hp] at h
    cases h
    exact ⟨s.pending, s.idle_evolves⟩
  | cons c rest =>
    rw [step_cons hp] at h
    obtain ⟨u, hu, he⟩ := exec_evolves c { s with pending := rest } fun r1 r0 hreset => hc r1 r0 rest (hreset ▸ hp)
    cases hu.symm.trans h
    exact ⟨rest, he⟩

/-- What every change keeps and every reset brings about holds after any step of a state that meets it. -/
theorem step_keeps {P : State → Prop} (hpending : ∀ u rest, P u → P { u with pending := rest })
    (hchange : ∀ u v : State, u.Change v → P u → P v) (hreset : ∀ u : State, P u.partReset) {s t : State} (hs : P s)
    (h : step s = .next t) : P t := by
  by_cases hc : ∃ rate1 rate0 rest, s.pending = .powerOnReset rate1 rate0 :: rest
  · obtain ⟨rate1, rate0, rest, hp⟩ := hc
    rw [step_cons hp, exec_powerOnReset] at h
    cases h
    exact hreset _
  · obtain ⟨rest, he⟩ := step_evolves h fun r1 r0 rest hp => hc ⟨r1, r0, rest, hp⟩
    exact he.keeps hchange (hpending s rest hs)

/-! ### The new CUE record, seen from the other pieces -/

theorem State.reconfigure_port (s : State) (i : CueId) (c : CueConfig) (l : LinkId) :
    (s.reconfigure i c).port l = s.port l := by
  unfold State.reconfigure
  dsimp only
  split <;> rfl

theorem State.reconfigure_cue (s : State) (i : CueId) (c : CueConfig) (k : CueId) :
    (s.reconfigure i c).cue k = if k = i then (s.cue i).configure c else s.cue k := by
  unfold State.reconfigure
  dsimp only
  have written := s.modCue_cue i k fun e => e.configure c
  split
  · exact written
  · exact written

theorem State.reconfigure_rest (s : State) (i : CueId) (c : CueConfig) : s.reconfigure i c =
    { s with cues := (s.reconfigure i c).cues, routes := (s.reconfigure i c).routes } := by
  unfold State.reconfigure
  dsimp only
  split <;> rfl

theorem State.reconfigure_route (s : State) (i : CueId) (c : CueConfig) (id : RouteId) :
    (s.reconfigure i c).route id =
      if c.cls = (s.cue i).config.cls then s.route id else (s.route id).afterClassChange i := by
  unfold State.reconfigure
  dsimp only
  split
  · rfl
  · exact State.mapRoutes_route _ _ _

theorem Route.afterClassChange_record (i : CueId) (x : Route) : (x.afterClassChange i).record = x.record := by
  unfold Route.afterClassChange
  split
  · split <;> rfl
  · rfl

theorem State.reconfigure_record (s : State) (i : CueId) (c : CueConfig) (id : RouteId) :
    ((s.reconfigure i c).route id).record = (s.route id).record := by
  rw [State.reconfigure_route]
  split
  · rfl
  · exact Route.afterClassChange_record i _

/-! ### The waiting commands -/

theorem State.Change.pending {s t : State} (h : s.Change t) : t.pending = s.pending := by
  cases h with
  | cueRecord i c h => rw [State.reconfigure_rest]
  | _ => rfl

/-- Settles O3: no change touches the waiting commands. -/
theorem everyCommandCompletes : Obligations.EveryCommandCompletes := by
  intro c s
  by_cases hc : ∃ rate1 rate0, c = .powerOnReset rate1 rate0
  · obtain ⟨rate1, rate0, rfl⟩ := hc
    exact ⟨_, rfl, rfl⟩
  · obtain ⟨t, ht, he⟩ := exec_evolves c s fun r1 r0 h => hc ⟨r1, r0, h⟩
    exact ⟨t, ht, he.keeps (P := fun u => u.pending = s.pending) (fun _ _ h hu => h.pending.trans hu) rfl⟩

/-! ### The state after a reset -/

theorem State.partReset_cue (s : State) (c : CueId) : s.partReset.cue c = .afterReset := by
  simp [State.cue, State.partReset]

theorem State.partReset_route (s : State) (id : RouteId) : s.partReset.route id = .afterReset := by
  simp [State.route, State.partReset]

/-- A link's plan after a reset. -/
def planAfterReset : LinkId → Plan
  | .d => .linkDAfterReset
  | .v => .boardAfterReset
  | .a => .boardAfterReset
  | .c => .boardAfterReset

theorem State.partReset_port (s : State) (l : LinkId) : s.partReset.port l =
    .afterReset (if l = .d then .starting else .off) (if l = .d then strappedRate s.rate1 s.rate0 else .mbit25)
      (planAfterReset l) := by
  cases l <;> rfl

theorem Port.afterReset_template (st : LinkState) (rate : LineRate) (plan : Plan) (t : BitVec 2) :
    (Port.afterReset st rate plan).template t = .afterReset := by
  simp [Port.afterReset, Port.template]

theorem Port.afterReset_queueLawful (l : LinkId) (st : LinkState) (rate : LineRate) (plan : Plan) :
    QueueLawful l (Port.afterReset st rate plan).queue :=
  ⟨Nat.zero_le _, List.nodup_nil, fun _ _ h => absurd h List.not_mem_nil⟩

theorem Port.afterReset_framesLawful (st : LinkState) (rate : LineRate) (plan : Plan) :
    (Port.afterReset st rate plan).FramesLawful :=
  ⟨fun t => by rw [Port.afterReset_template]; decide, fun _ h => absurd h List.not_mem_nil, fun _ h => (nomatch h),
    fun _ h => (nomatch h)⟩

/-! ### Queues, stopped links and frames: laws of one link at a time -/

theorem State.partReset_queues (s : State) (l : LinkId) :
    QueueLawful l (s.partReset.port l).queue ∧ (s.partReset.port l).Quiet := by
  rw [State.partReset_port]
  exact ⟨Port.afterReset_queueLawful _ _ _ _, fun _ => ⟨rfl, rfl, rfl, rfl⟩⟩

/-- A law of one link at a time stands through a change when a change of the link, a new template and new settings leave
it. -/
theorem State.Change.port_law {Q : LinkId → Port → Prop} {s t : State} (h : s.Change t)
    (hport : ∀ l p, s.PortChange l p → Q l (s.port l) → Q l p)
    (htemplate : ∀ l n rec, rec.lawful = true → Q l (s.port l) → Q l ((s.port l).setTemplate n rec))
    (hsettings : ∀ l r, Q l (s.port l) → Q l { s.port l with settings := r })
    (hreset : ∀ l, Q l (s.partReset.port l)) (hs : ∀ l, Q l (s.port l)) : ∀ l, Q l (t.port l) := by
  have set (l : LinkId) {p : Port} (hp : Q l p) : ∀ k, Q k ((s.setPort l p).port k) := fun k => by
    rw [State.setPort_port]
    split
    · next hk => exact hk ▸ hp
    · exact hs k
  cases h with
  | port l p h => exact set l (hport l p h (hs l))
  | template l n rec h hp => exact set l (htemplate l n rec h (hs l))
  | settings l r h => exact set l (hsettings l r (hs l))
  | cueRecord i c h => intro l; rw [State.reconfigure_port]; exact hs l
  | partReset h => exact hreset
  | _ => exact hs

/-- Settles O54. -/
theorem queuesAndStoppedLinksStayLawful : Obligations.QueuesAndStoppedLinksStayLawful := by
  intro s t hq hst h
  have kept : ∀ l, QueueLawful l (t.port l).queue ∧ (t.port l).Quiet :=
    step_keeps (P := fun u => ∀ l, QueueLawful l (u.port l).queue ∧ (u.port l).Quiet) (fun _ _ hu => hu)
      (fun u v hc hu => hc.port_law (Q := fun l p => QueueLawful l p.queue ∧ p.Quiet)
        (fun l p hp ⟨h1, h2⟩ => ⟨hp.queue h1, hp.quiet h2⟩) (fun l n rec _ hl => hl) (fun l r hl => hl)
        u.partReset_queues hu)
      State.partReset_queues (fun l => ⟨hq l, hst l⟩) h
  exact ⟨fun l => (kept l).1, fun l => (kept l).2⟩

theorem Port.template_setTemplate (p : Port) (n t : BitVec 2) (rec : Template) :
    (p.setTemplate n rec).template t = if t = n then rec else p.template t := by
  simp only [Port.template, Port.setTemplate]
  rw [Vector.getElem_set]
  simp only [BitVec.toNat_inj, eq_comm]

theorem Port.FramesLawful.setTemplate {p : Port} (h : p.FramesLawful) (n : BitVec 2) {rec : Template}
    (hr : rec.lawful = true) : (p.setTemplate n rec).FramesLawful := by
  obtain ⟨ht, hrest⟩ := h
  refine ⟨fun t => ?_, hrest⟩
  rw [Port.template_setTemplate]
  split
  · exact hr
  · exact ht t

theorem State.partReset_frames (s : State) (l : LinkId) : (s.partReset.port l).FramesLawful := by
  rw [State.partReset_port]
  exact Port.afterReset_framesLawful _ _ _

/-- Settles O59. -/
theorem framesStayLawful : Obligations.FramesStayLawful := by
  intro s t hs h
  exact step_keeps (P := fun u => ∀ l, (u.port l).FramesLawful) (fun _ _ hu => hu)
    (fun u v hc hu => hc.port_law (Q := fun _ p => p.FramesLawful) (fun l p hp => hp.frames)
      (fun l n rec hr hl => hl.setTemplate n hr) (fun l r hl => hl) u.partReset_frames hu)
    State.partReset_frames hs h

/-! ### Field positions, settings, the management unit -/

theorem State.FieldPositionsLawful.of_eq {s t : State} (h : s.FieldPositionsLawful)
    (hr : ∀ id, (t.route id).record = (s.route id).record) (hp : ∀ l, (t.port l).template = (s.port l).template) :
    t.FieldPositionsLawful := by
  intro id hk
  simp only [hr, hp] at hk ⊢
  exact h id hk

theorem RouteRecord.fills_iff (r : RouteRecord) (l : LinkId) (t : BitVec 2) (n : Nat) :
    r.fills l t n = true ↔ r.kind = .field ∧ r.link = l ∧ r.template = t ∧ r.position.toNat = n := by
  simp [RouteRecord.fills, and_assoc]

theorem State.FieldPositionsLawful.rewritten {s : State} (h : s.FieldPositionsLawful) {id : RouteId} {r : RouteRecord}
    (ha : s.RouteAllowed id r) : (s.setRoute id ((s.route id).rewritten r)).FieldPositionsLawful := by
  have record (k : RouteId) : ((s.setRoute id ((s.route id).rewritten r)).route k).record =
      if k = id then r else (s.route k).record := by
    rw [State.setRoute_route]
    split <;> rfl
  intro k hk
  simp only [record, State.setRoute_port] at hk ⊢
  by_cases hid : k = id
  · simp only [hid, if_true] at hk ⊢
    refine ⟨ha.position hk, fun j hj => ?_⟩
    rw [if_neg hj]
    exact ha.free hk j hj
  · simp only [if_neg hid] at hk ⊢
    obtain ⟨hpos, hfree⟩ := h k hk
    refine ⟨hpos, fun j hj => ?_⟩
    split
    · rw [← Bool.not_eq_true, RouteRecord.fills_iff]
      rintro ⟨hf, hl, ht, hn⟩
      have hno := ha.free hf k hid
      rw [← Bool.not_eq_true, RouteRecord.fills_iff] at hno
      exact hno ⟨hk, hl.symm, ht.symm, hn.symm⟩
    · exact hfree j hj

theorem State.FieldPositionsLawful.setTemplate {s : State} (h : s.FieldPositionsLawful) {l : LinkId} {n : BitVec 2}
    {rec : Template} (hp : ∀ id, s.InTemplate l n id → (s.route id).record.position.toNat < rec.fields) :
    (s.modPort l fun p => p.setTemplate n rec).FieldPositionsLawful := by
  intro id hk
  obtain ⟨hpos, hfree⟩ := h id hk
  refine ⟨?_, hfree⟩
  rw [State.modPort_route] at hk ⊢
  rw [State.modPort_port]
  split
  · next hl =>
    rw [Port.template_setTemplate]
    split
    · next ht => exact hp id ⟨hk, hl, ht⟩
    · exact hl ▸ hpos
  · exact hpos

theorem State.partReset_fieldPositions (s : State) : s.partReset.FieldPositionsLawful := by
  intro id hk
  rw [State.partReset_route] at hk
  cases hk

theorem State.setPort_template {s : State} {l : LinkId} {p : Port} (h : p.templates = (s.port l).templates) (k : LinkId) :
    ((s.setPort l p).port k).template = (s.port k).template := by
  rw [State.setPort_port]
  split
  · next hk => funext t; simp only [Port.template, h, hk]
  · rfl

theorem State.Change.fieldPositions {s t : State} (h : s.Change t) (hs : s.FieldPositionsLawful) :
    t.FieldPositionsLawful := by
  cases h with
  | routes v h => exact hs.of_eq (fun id => (h id).record) fun _ => rfl
  | port l p h => exact hs.of_eq (fun _ => rfl) (State.setPort_template h.templates)
  | cueRecord i c h => exact hs.of_eq (s.reconfigure_record i c) fun l => by rw [State.reconfigure_port]
  | routeRecord id r h => exact hs.rewritten h
  | template l n rec h hp => exact hs.setTemplate hp
  | settings l r h => exact hs.of_eq (fun _ => rfl) (State.setPort_template rfl)
  | partReset h => exact s.partReset_fieldPositions
  | _ => exact hs

/-- What `State.SettingsLawful` says of one link. -/
def State.PortSettingsLawful (s : State) (l : LinkId) (p : Port) : Prop :=
  s.SettingsAllowed l p.settings ∧ p.eventCount ≤ 3

theorem State.settingsLawful_iff (s : State) : s.SettingsLawful ↔ ∀ l, s.PortSettingsLawful l (s.port l) := by
  constructor
  · rintro ⟨hr, hd⟩ l
    obtain ⟨h1, h3, h15, hc⟩ := hr l
    exact ⟨⟨⟨h1, h3, h15⟩, fun hl => hl ▸ hd⟩, hc⟩
  · intro h
    refine ⟨fun l => ?_, (h .d).1.linkD rfl⟩
    obtain ⟨h1, h3, h15⟩ := (h l).1.ranges
    exact ⟨h1, h3, h15, (h l).2⟩

theorem State.partReset_settings (s : State) : s.partReset.SettingsLawful := by
  refine s.partReset.settingsLawful_iff.mpr fun l => ?_
  rw [State.partReset_port]
  refine ⟨⟨⟨le_rfl, Nat.le_of_ble_eq_true rfl, Nat.le_of_ble_eq_true rfl⟩, fun hl => ?_⟩, Nat.zero_le 3⟩
  subst hl
  exact ⟨rfl, rfl, rfl⟩

theorem State.Change.settingsLawful {s t : State} (h : s.Change t) (hs : s.SettingsLawful) : t.SettingsLawful := by
  have each := s.settingsLawful_iff.mp hs
  have set (l : LinkId) {p : Port} (hp : s.PortSettingsLawful l p) : (s.setPort l p).SettingsLawful := by
    refine (State.settingsLawful_iff _).mpr fun k => ?_
    rw [State.setPort_port]
    split
    · next hk => subst hk; exact ⟨⟨hp.1.ranges, hp.1.linkD⟩, hp.2⟩
    · exact ⟨⟨(each k).1.ranges, (each k).1.linkD⟩, (each k).2⟩
  cases h with
  | port l p h =>
    obtain ⟨ha, hc⟩ := each l
    exact set l ⟨h.settings ▸ ha, h.count ha.ranges.2.1 hc⟩
  | template l n rec h hp => exact set l (each l)
  | settings l r h => exact set l ⟨h, (each l).2⟩
  | cueRecord i c h =>
    rw [State.reconfigure_rest]
    exact hs
  | partReset h => exact s.partReset_settings
  | _ => exact hs

theorem State.partReset_managementLawful (s : State) : s.partReset.ManagementLawful :=
  ⟨Nat.succ_pos 255, Nat.succ_pos 13, fun h => absurd rfl h, Nat.zero_le 384⟩

theorem State.Change.managementLawful {s t : State} (h : s.Change t) (hs : s.ManagementLawful) : t.ManagementLawful := by
  cases h with
  | management m h => exact h.lawful hs
  | cueRecord i c h =>
    rw [State.reconfigure_rest]
    exact hs
  | partReset h => exact s.partReset_managementLawful
  | _ => exact hs

/-- Settles O55. -/
theorem tablesAndManagementStayLawful : Obligations.TablesAndManagementStayLawful := by
  intro s t hf hse hm h
  exact step_keeps (P := fun u => u.FieldPositionsLawful ∧ u.SettingsLawful ∧ u.ManagementLawful) (fun _ _ hu => hu)
    (fun u v hc ⟨h1, h2, h3⟩ => ⟨hc.fieldPositions h1, hc.settingsLawful h2, hc.managementLawful h3⟩)
    (fun u => ⟨u.partReset_fieldPositions, u.partReset_settings, u.partReset_managementLawful⟩) ⟨hf, hse, hm⟩ h

/-! ### The freeze -/

theorem State.partReset_freeze (s : State) : s.partReset.FrozenQueuesClean ∧ s.partReset.WindowTimerLawful := by
  have runs : s.partReset.freeze = { state := .run, timer := none } := rfl
  constructor
  · intro h
    simp [runs] at h
  · simp [State.WindowTimerLawful, runs]

theorem State.FrozenQueuesClean.setPort {s : State} (h : s.FrozenQueuesClean) {l : LinkId} {p : Port}
    (hp : s.freeze.state.Holds → eventRoutesIn (s.port l).queue = [] → eventRoutesIn p.queue = []) :
    (s.setPort l p).FrozenQueuesClean := by
  intro hf k
  rw [State.setPort_port]
  split
  · exact hp hf (h hf l)
  · exact h hf k

theorem State.Change.freezeLawful {s t : State} (h : s.Change t) (hs : s.FrozenQueuesClean ∧ s.WindowTimerLawful) :
    t.FrozenQueuesClean ∧ t.WindowTimerLawful := by
  obtain ⟨hq, hw⟩ := hs
  cases h with
  | freeze f h => exact ⟨fun hf => (h.clean hf).elim hq id, h.timer hw⟩
  | port l p h => exact ⟨hq.setPort h.clean, hw⟩
  | template l n rec h hp => exact ⟨hq.setPort fun _ h => h, hw⟩
  | settings l r h => exact ⟨hq.setPort fun _ h => h, hw⟩
  | cueRecord i c h =>
    rw [State.reconfigure_rest]
    exact ⟨hq, hw⟩
  | partReset h => exact s.partReset_freeze
  | _ => exact ⟨hq, hw⟩

/-- Settles O56. -/
theorem freezeStaysLawful : Obligations.FreezeStaysLawful := by
  intro s t hq hw h
  exact step_keeps (P := fun u => u.FrozenQueuesClean ∧ u.WindowTimerLawful) (fun _ _ hu => hu)
    (fun _ _ hc hu => hc.freezeLawful hu) State.partReset_freeze ⟨hq, hw⟩ h

/-! ### Route states -/

/-- What `State.AnalogRoutesBounded` and `State.SettledMarksRight` say of one route, with the class of its source. -/
def Route.Lawful (x : Route) (cls : CueClass) : Prop :=
  (x.record.kind = .field → x.record.Bounded ∧ (cls = .analog → x.InRange)) ∧ x.SettledRight

theorem State.routesLawful_iff (s : State) : (s.AnalogRoutesBounded ∧ s.SettledMarksRight) ↔
    ∀ id, (s.route id).Lawful (s.sourceClass (s.route id).record) :=
  ⟨fun ⟨hb, hm⟩ id => ⟨hb id, hm id⟩, fun h => ⟨fun id => (h id).1, fun id => (h id).2⟩⟩

theorem RouteRecord.nearest_between {r : RouteRecord} (h : r.lo.toInt ≤ r.hi.toInt) (w : Word) :
    r.lo.toInt ≤ (r.nearest w).toInt ∧ (r.nearest w).toInt ≤ r.hi.toInt := by
  by_cases hl : w.toInt < r.lo.toInt
  · rw [RouteRecord.nearest_below hl]
    exact ⟨le_rfl, h⟩
  · by_cases hu : r.hi.toInt < w.toInt
    · rw [RouteRecord.nearest_above (Int.not_lt.mp hl) hu]
      exact ⟨h, le_rfl⟩
    · rw [RouteRecord.nearest_within (Int.not_lt.mp hl) (Int.not_lt.mp hu)]
      exact ⟨Int.not_lt.mp hl, Int.not_lt.mp hu⟩

theorem Route.rewritten_lawful (x : Route) {r : RouteRecord} (h : r.kind = .field → r.Bounded) (cls : CueClass) :
    (x.rewritten r).Lawful cls := by
  refine ⟨fun hk => ?_, x.rewritten_settledRight r⟩
  have hb : r.Bounded := h hk
  obtain ⟨hl, hu, -⟩ := id hb
  refine ⟨hb, fun _ => ?_⟩
  show r.lo.toInt ≤ (x.rewritten r).held.toInt ∧ (x.rewritten r).held.toInt ≤ r.hi.toInt
  rw [Route.rewritten_held]
  split
  · exact RouteRecord.nearest_between (hl.trans hu) _
  · exact ⟨hl, hu⟩

/-- A route whose source changes class starts again from its N, and so in its range (R47). -/
theorem Route.Lawful.afterClassChange {x : Route} {cls : CueClass} (h : x.Lawful cls) {i : CueId}
    (hs : cueOfByte x.record.sourceA = i) (cls' : CueClass) : (x.afterClassChange i).Lawful cls' := by
  obtain ⟨hf, hm⟩ := h
  cases hk : x.record.kind with
  | field =>
    obtain ⟨hb, -⟩ := hf hk
    rw [Route.afterClassChange_field hs hk]
    exact ⟨fun _ => ⟨hb, fun _ => ⟨hb.1, hb.2.1⟩⟩, fun _ => ⟨hk, rfl⟩, fun _ => rfl⟩
  | event =>
    rw [Route.afterClassChange_event hs hk]
    exact ⟨fun hfield => absurd (hk.symm.trans hfield) (by simp), hm⟩
  | off =>
    rw [Route.afterClassChange_other (.inr hk)]
    exact ⟨fun hfield => absurd (hk.symm.trans hfield) (by simp), hm⟩

theorem State.sourceClass_eq (s : State) (r : RouteRecord) :
    s.sourceClass r = (s.cue (cueOfByte r.sourceA)).config.cls := rfl

theorem CueEntry.configure_config (e : CueEntry) (c : CueConfig) : (e.configure c).config = c := by
  unfold CueEntry.configure
  split <;> rfl

theorem State.reconfigure_sourceClass (s : State) (i : CueId) (c : CueConfig) (r : RouteRecord) :
    (s.reconfigure i c).sourceClass r = if cueOfByte r.sourceA = i then c.cls else s.sourceClass r := by
  rw [State.sourceClass_eq, State.reconfigure_cue]
  split
  · rw [CueEntry.configure_config]
  · rfl

theorem State.partReset_routes (s : State) : s.partReset.AnalogRoutesBounded ∧ s.partReset.SettledMarksRight := by
  refine (State.routesLawful_iff _).mpr fun id => ?_
  rw [State.partReset_route]
  have off : Route.afterReset.record.kind = .off := rfl
  have unmarked : Route.afterReset.settled = false := rfl
  simp [Route.Lawful, Route.SettledRight, off, unmarked]

theorem State.Change.routesLawful {s t : State} (h : s.Change t)
    (hs : ∀ id, (s.route id).Lawful (s.sourceClass (s.route id).record)) :
    ∀ id, (t.route id).Lawful (t.sourceClass (t.route id).record) := by
  cases h with
  | cues v h =>
    intro id
    rw [State.sourceClass_eq, (h _).config]
    exact hs id
  | routes v h =>
    intro id
    obtain ⟨hf, hm⟩ := hs id
    obtain ⟨hrec, hset, hrange⟩ := h id
    rw [hrec]
    refine ⟨fun hk => ?_, hset hm⟩
    rw [hrec] at hk ⊢
    obtain ⟨hb, hin⟩ := hf hk
    refine ⟨hb, fun hc => ?_⟩
    rw [← hrec] at hk hb hc
    exact hrange hk hb hc (hin (hrec ▸ hc))
  | cueRecord i c h =>
    intro id
    rw [State.reconfigure_record, State.reconfigure_sourceClass, State.reconfigure_route]
    by_cases hs' : cueOfByte (s.route id).record.sourceA = i
    · rw [if_pos hs']
      split
      · next hc =>
        rw [hc, ← hs']
        exact hs id
      · exact (hs id).afterClassChange hs' _
    · rw [if_neg hs', Route.afterClassChange_other (.inl hs'), ite_self]
      exact hs id
  | routeRecord id r h =>
    intro k
    rw [State.setRoute_route]
    split
    · exact Route.rewritten_lawful _ h.bounded _
    · exact hs k
  | partReset h => exact (State.routesLawful_iff _).mp s.partReset_routes
  | _ => exact hs

/-- Settles O57. -/
theorem routeStatesStayLawful : Obligations.RouteStatesStayLawful := by
  intro s t hb hm h
  rw [State.routesLawful_iff]
  exact step_keeps (P := fun u => ∀ id, (u.route id).Lawful (u.sourceClass (u.route id).record)) (fun _ _ hu => hu)
    (fun _ _ hc hu => hc.routesLawful hu) (fun u => (State.routesLawful_iff _).mp u.partReset_routes)
    (s.routesLawful_iff.mp ⟨hb, hm⟩) h

/-! ### Cues and the batch -/

theorem CueEntry.Lawful.configure {e : CueEntry} (h : e.Lawful) {c : CueConfig} (hc : c.inRange = true) :
    (e.configure c).Lawful := by
  obtain ⟨ho, ha, hf, hage, -⟩ := h
  by_cases hk : c.cls = e.config.cls ∧ c.owner = e.config.owner
  · rw [CueEntry.configure_kept hk.1 hk.2]
    exact ⟨fun hn => ho (hk.2 ▸ hn), ha, fun hst => hk.1.trans (hf hst), hage, hc⟩
  · rw [CueEntry.configure_emptied (by rwa [not_and_or] at hk)]
    have empty : (e.emptied c).state = .empty := rfl
    exact ⟨fun _ => empty, fun _ => rfl, fun hst => absurd (empty.symm.trans hst) (by simp), Nat.zero_le _, hc⟩

theorem State.partReset_cues (s : State) : s.partReset.BatchLawful ∧ s.partReset.CueTableLawful := by
  have closed : s.partReset.batch = { isOpen := false, openTag := 0, timer := none, currentTag := 0 } := rfl
  refine ⟨⟨fun c h => ?_, by simp [closed], by simp [closed]⟩, fun c => ?_⟩
  · rw [State.partReset_cue] at h
    exact absurd rfl h
  · rw [State.partReset_cue]
    decide

/-- A link that leaves Link D RUNNING under an open batch leaves the batch its law. -/
theorem State.BatchLawful.setPort {s : State} (h : s.BatchLawful) {l : LinkId} {p : Port}
    (hp : l = .d → s.batch.isOpen = true → (s.port l).state = .running → p.state = .running) :
    (s.setPort l p).BatchLawful := by
  obtain ⟨hpend, htimer, hd⟩ := h
  refine ⟨hpend, htimer, fun ho => ?_⟩
  rw [State.setPort_port]
  split
  · next hl => exact hp hl.symm ho (hl ▸ hd ho)
  · exact hd ho

theorem State.BatchLawful.withBatch {s : State} (h : s.BatchLawful) {b : BatchUnit} (hb : s.BatchChange b) :
    { s with batch := b }.BatchLawful := by
  obtain ⟨hpend, htimer, hd⟩ := h
  refine ⟨fun c hc => ?_, hb.timer htimer, fun ho => (hb.opens ho).elim hd id⟩
  obtain ⟨hopen, howner⟩ := hpend c hc
  refine ⟨?_, howner⟩
  by_contra hclosed
  exact hc (hb.closes hopen (Bool.not_eq_true _ ▸ hclosed) c)

theorem State.BatchLawful.withCues {s : State} (h : s.BatchLawful) {v : Vector CueEntry 256}
    (hv : ∀ c, s.EntryChange c ({ s with cues := v }.cue c)) : { s with cues := v }.BatchLawful := by
  obtain ⟨hpend, htimer, hd⟩ := h
  refine ⟨fun c hc => ?_, htimer, hd⟩
  rw [(hv c).config]
  exact ((hv c).pending hc).elim (hpend c) id

theorem State.BatchLawful.reconfigure {s : State} (h : s.BatchLawful) (i : CueId) (c : CueConfig) :
    (s.reconfigure i c).BatchLawful := by
  obtain ⟨hpend, htimer, hd⟩ := h
  have batch : (s.reconfigure i c).batch = s.batch := by rw [State.reconfigure_rest]
  refine ⟨fun k hk => ?_, by rw [batch]; exact htimer, fun ho => ?_⟩
  · rw [batch, State.reconfigure_cue] at *
    split at hk
    · next hki =>
      rw [if_pos hki]
      by_cases hkept : c.cls = (s.cue i).config.cls ∧ c.owner = (s.cue i).config.owner
      · rw [CueEntry.configure_kept hkept.1 hkept.2] at hk ⊢
        exact hkept.2 ▸ hpend i hk
      · rw [CueEntry.configure_emptied (by rwa [not_and_or] at hkept)] at hk
        exact absurd rfl hk
    · next hki =>
      rw [if_neg hki]
      exact hpend k hk
  · rw [State.reconfigure_port]
    exact hd (batch ▸ ho)

theorem State.Change.cuesLawful {s t : State} (h : s.Change t) (hs : s.BatchLawful ∧ s.CueTableLawful) :
    t.BatchLawful ∧ t.CueTableLawful := by
  obtain ⟨hb, hc⟩ := hs
  cases h with
  | batch b h => exact ⟨hb.withBatch h, hc⟩
  | cues v h => exact ⟨hb.withCues h, fun c => (h c).lawful hb (hc c)⟩
  | port l p h => exact ⟨hb.setPort h.batch, hc⟩
  | template l n rec h hp => exact ⟨hb.setPort fun _ _ h => h, hc⟩
  | settings l r h => exact ⟨hb.setPort fun _ _ h => h, hc⟩
  | cueRecord i c h =>
    refine ⟨hb.reconfigure i c, fun k => ?_⟩
    rw [State.reconfigure_cue]
    split
    · exact CueEntry.Lawful.configure (hc i) h
    · exact hc k
  | partReset h => exact s.partReset_cues
  | _ => exact ⟨hb, hc⟩

/-- Settles O58. -/
theorem cuesAndBatchStayLawful : Obligations.CuesAndBatchStayLawful := by
  intro s t hb hc h
  exact step_keeps (P := fun u => u.BatchLawful ∧ u.CueTableLawful) (fun _ _ hu => hu)
    (fun _ _ hch hu => hch.cuesLawful hu) State.partReset_cues ⟨hb, hc⟩ h

/-- Settles O4. -/
theorem resetIsLawful : Obligations.ResetIsLawful := by
  have queues := State.reset.partReset_queues
  obtain ⟨hclean, hwindow⟩ := State.reset.partReset_freeze
  obtain ⟨hbounded, hmarks⟩ := State.reset.partReset_routes
  obtain ⟨hbatch, hcues⟩ := State.reset.partReset_cues
  exact ⟨fun l => (queues l).1, hclean, fun l => (queues l).2, hbounded, hmarks, hbatch,
    State.reset.partReset_fieldPositions, State.reset.partReset_settings, State.reset.partReset_managementLawful, hcues,
    hwindow, State.reset.partReset_frames⟩

/-! ### The limit lock -/

/-- The lock, the protected range and the protected records of `s` stand in `u` (R150). -/
def State.LockHolds (s u : State) : Prop :=
  u.management.limitLock = true ∧ u.management.boundary = s.management.boundary
    ∧ u.management.side = s.management.side
    ∧ ∀ id : RouteId, s.management.protects id.val = true → (u.route id).record = (s.route id).record

theorem Management.protects_eq {m n : Management} (hb : n.boundary = m.boundary) (hs : n.side = m.side) (r : Nat) :
    n.protects r = m.protects r := by
  simp only [Management.protects, hb, hs]

theorem State.Change.lockHolds {s u v : State} (h : u.Change v) (hu : s.LockHolds u) : s.LockHolds v := by
  obtain ⟨hlock, hbound, hside, hrec⟩ := hu
  cases h with
  | management m h =>
    obtain ⟨h1, h2, h3⟩ := h.locked hlock
    exact ⟨h1, h2.trans hbound, h3.trans hside, hrec⟩
  | routes w h => exact ⟨hlock, hbound, hside, fun id hp => (h id).record.trans (hrec id hp)⟩
  | cueRecord i c h =>
    have management : (u.reconfigure i c).management = u.management := by rw [State.reconfigure_rest]
    unfold State.LockHolds
    rw [management]
    exact ⟨hlock, hbound, hside, fun id hp => (u.reconfigure_record i c id).trans (hrec id hp)⟩
  | routeRecord id r h =>
    refine ⟨hlock, hbound, hside, fun k hp => ?_⟩
    rw [State.setRoute_route]
    split
    · next hk =>
      have unprotected := h.unprotected
      rw [Management.protects_eq hbound hside, ← hk, hp] at unprotected
      cases unprotected
    · exact hrec k hp
  | partReset h => exact absurd hlock (by simp [h])
  | _ => exact ⟨hlock, hbound, hside, hrec⟩

/-- Settles O60. -/
theorem theLimitLockHolds : Obligations.TheLimitLockHolds := by
  intro s t hlock h hc
  obtain ⟨rest, he⟩ := step_evolves h hc
  exact he.keeps (P := s.LockHolds) (fun _ _ hch hu => hch.lockHolds hu) ⟨hlock, rfl, rfl, fun _ _ => rfl⟩

end Sys2Proof.Machine

/-! PROOFS. The reset values, the events of the millisecond timer that stand for one transition each, and the symbols on
a line. -/

namespace Sys2Proof.Machine

/-! ### The reset values -/

theorem planAfterReset_get (l : LinkId) (k : Fin 6) : (planAfterReset l)[k.val] =
    if l = .d ∧ k = 0 then { rule := .eventOrCyclic, template := 0, length := 500 }
    else { rule := .cyclic, template := 0, length := 0 } := by
  revert k
  cases l <;> decide

theorem State.partReset_atResetValues (s : State) : s.partReset.AtResetValues (strappedRate s.rate1 s.rate0) := by
  refine ⟨s.partReset_cue, rfl, fun id => ?_, fun l => ?_, rfl, rfl, rfl, rfl, rfl⟩
  · rw [State.partReset_route]
    decide
  · rw [State.partReset_port]
    refine ⟨rfl, rfl, rfl, rfl, rfl, rfl, rfl, rfl, rfl, rfl, planAfterReset_get l, Port.afterReset_template _ _ _, ?_⟩
    exact ⟨rfl, rfl, rfl, rfl, rfl, rfl⟩

/-- Settles O5. -/
theorem powerOnResetSetsEveryBlock : Obligations.PowerOnResetSetsEveryBlock := by
  intro rate1 rate0 s
  refine ⟨_, exec_powerOnReset rate1 rate0 s, ?_, State.partReset_atResetValues _, rfl, rfl, rfl, rfl, rfl⟩
  cases rate1 <;> cases rate0 <;> rfl

/-! ### Limit expiries -/

/-- Counting a test that another one agrees with but at one element. -/
theorem countP_of_agree {α : Type} [DecidableEq α] {xs : List α} (hn : xs.Nodup) {c : α} (hc : c ∈ xs) {p q : α → Bool}
    (h : ∀ x, x ≠ c → p x = q x) : xs.countP p + (q c).toNat = xs.countP q + (p c).toNat := by
  have split (r : α → Bool) : xs.countP r = (xs.erase c).countP r + (r c).toNat := by
    rw [(List.perm_cons_erase hc).countP_eq, List.countP_cons]
    cases r c <;> rfl
  have rest : (xs.erase c).countP p = (xs.erase c).countP q :=
    List.countP_congr fun x hx => by rw [h x ((hn.mem_erase_iff.mp hx).1)]
  rw [split p, split q, rest]
  omega

/-- A cue that a link's stale count counts (R14). -/
def CueEntry.countsFor (e : CueEntry) (l : LinkId) : Bool :=
  decide (e.config.owner = some l ∧ (e.state = .held ∨ e.state = .fading ∨ e.state = .rested))

/-- A change of one entry moves its link's stale count by what the entry itself counts (R14). -/
theorem State.staleCues_setCue (s : State) (c : CueId) (e : CueEntry) (l : LinkId) :
    ((s.setCue c e).staleCues l).length + ((s.cue c).countsFor l).toNat
      = (s.staleCues l).length + (e.countsFor l).toNat := by
  have count (u : State) : (u.staleCues l).length = (List.finRange 256).countP fun k => (u.cue k).countsFor l :=
    (List.countP_eq_length_filter ..).symm
  have agree := countP_of_agree (List.nodup_finRange 256) (List.mem_finRange c)
    (p := fun k => ((s.setCue c e).cue k).countsFor l) (q := fun k => (s.cue k).countsFor l) fun k hk => by
      rw [State.setCue_cue, if_neg hk]
  rw [State.setCue_cue_same] at agree
  rw [count, count]
  exact agree

theorem CueEntry.enterFading_of_analog {e : CueEntry} : e.enterFading =
    if e.config.cls = .analog ∧ e.value ≠ e.config.neutral then { e with state := .fading }
    else { e with value := e.config.neutral, state := .rested } := by
  by_cases h : e.config.cls = .analog ∧ e.value ≠ e.config.neutral
  · rw [if_pos h, CueEntry.enterFading_stays h.1 fun hv => h.2 (BitVec.eq_of_toInt_eq hv)]
  · rw [if_neg h]
    refine CueEntry.enterFading_rests ?_
    cases hc : e.config.cls with
    | analog => exact .inr (congrArg BitVec.toInt (not_not.mp fun hv => h ⟨hc, hv⟩))
    | switch => exact .inl rfl

/-- Settles O8: both tests by their equations, the stale counts by what the one entry counts before and after. -/
theorem limitExpiriesMoveOneCue : Obligations.LimitExpiriesMoveOneCue := by
  intro c s e fresh stale
  have run (f : CueEntry → CueEntry) (hf : f e = e) : s.modCue c f = s := by
    rw [State.modCue, hf]
    exact s.setCue_self c
  refine ⟨fun hl ha => ⟨_, rfl, ?_, fun l => ?_⟩, fun h => congrArg _ (run _ ?_), fun hh ha => ⟨_, rfl, ?_, fun l => ?_⟩,
    fun h => congrArg _ (run _ ?_)⟩
  · rw [State.modCue, CueEntry.testFresh_of_reached hl ha]
  · have counted := s.staleCues_setCue c e.testFresh l
    rw [CueEntry.testFresh_of_reached hl ha] at counted
    have before : (s.cue c).countsFor l = false := by simp [CueEntry.countsFor, show (s.cue c).state = .live from hl]
    have after : ({ e with state := .held } : CueEntry).countsFor l = decide (e.config.owner = some l) := by
      simp [CueEntry.countsFor]
    rw [before, after] at counted
    rw [State.modCue, CueEntry.testFresh_of_reached hl ha]
    refine Eq.trans counted ?_
    by_cases ho : e.config.owner = some l <;> simp [ho]
  · rcases h with h | h
    · exact CueEntry.testFresh_of_not_live h
    · exact CueEntry.testFresh_of_below h
  · rw [State.modCue, CueEntry.testHold_of_reached hh ha, CueEntry.enterFading_of_analog]
  · have counted := s.staleCues_setCue c e.testHold l
    have same : e.testHold.countsFor l = (s.cue c).countsFor l := by
      rw [CueEntry.testHold_of_reached hh ha, CueEntry.enterFading_of_analog]
      split <;> simp [CueEntry.countsFor, e, show (s.cue c).state = .held from hh]
    rw [same] at counted
    exact Nat.add_right_cancel counted
  · rcases h with h | h
    · exact CueEntry.testHold_of_not_held h
    · exact CueEntry.testHold_of_below h

/-! ### The windows -/

theorem State.testBatchWindow_expires {s : State} {n : Nat} (ho : s.batch.isOpen = true) (ht : s.batch.timer = some n)
    (hw : s.globals.batchWindow.toNat ≤ n) : s.testBatchWindow = s.timeOutBatch := by
  unfold State.testBatchWindow
  simp only [ho, ht, if_pos hw]

theorem State.testBatchWindow_stands {s : State}
    (h : s.batch.isOpen = false ∨ ∀ n, s.batch.timer = some n → n < s.globals.batchWindow.toNat) :
    s.testBatchWindow = s := by
  unfold State.testBatchWindow
  split
  · next n ho ht =>
    rcases h with h | h
    · rw [ho] at h
      cases h
    · exact if_neg (Nat.not_le.mpr (h n ht))
  · rfl

theorem State.testFreezeWindow_expires {s : State} {n : Nat} (hf : s.freeze = { state := .freezing, timer := some n })
    (hw : s.globals.freezeWindow.toNat ≤ n) : s.testFreezeWindow = s.expireFreeze := by
  unfold State.testFreezeWindow
  simp only [hf, if_pos hw]

theorem State.testFreezeWindow_stands {s : State}
    (h : s.freeze.state ≠ .freezing ∨ ∀ n, s.freeze.timer = some n → n < s.globals.freezeWindow.toNat) :
    s.testFreezeWindow = s := by
  unfold State.testFreezeWindow
  split
  · next n hs ht =>
    rcases h with h | h
    · exact absurd hs h
    · exact if_neg (Nat.not_le.mpr (h n ht))
  · rfl

theorem State.testResumeWindow_expires {s : State} {n : Nat} (hf : s.freeze = { state := .resuming, timer := some n })
    (hw : s.globals.resumeWindow.toNat ≤ n) : s.testResumeWindow = s.expireResume := by
  unfold State.testResumeWindow
  simp only [hf, if_pos hw]

theorem State.testResumeWindow_stands {s : State}
    (h : s.freeze.state ≠ .resuming ∨ ∀ n, s.freeze.timer = some n → n < s.globals.resumeWindow.toNat) :
    s.testResumeWindow = s := by
  unfold State.testResumeWindow
  split
  · next n hs ht =>
    rcases h with h | h
    · exact absurd hs h
    · exact if_neg (Nat.not_le.mpr (h n ht))
  · rfl

/-- Settles O9. -/
theorem windowExpiriesEndTheirWork : Obligations.WindowExpiriesEndTheirWork := by
  intro s
  refine ⟨fun n ho ht hw => ?_, fun h => congrArg _ (State.testBatchWindow_stands h),
    fun n hf hw => congrArg _ (State.testFreezeWindow_expires hf hw),
    fun h => congrArg _ (State.testFreezeWindow_stands h),
    fun n hf hw => congrArg _ (State.testResumeWindow_expires hf hw),
    fun h => congrArg _ (State.testResumeWindow_stands h)⟩
  exact ⟨s.timeOutBatch, congrArg _ (State.testBatchWindow_expires ho ht hw), rfl, s.abandonBatch_cue⟩

/-! ### Batch and ramp -/

/-- The controller's state after a re-evaluation looks at the routes, the links' states and plans and itself alone. -/
theorem State.reevaluate_freeze_congr {s t : State} (hf : t.freeze = s.freeze) (hr : ∀ id, t.route id = s.route id)
    (hp : ∀ l, (t.port l).state = (s.port l).state ∧ (t.port l).plan = (s.port l).plan) :
    t.reevaluate.freeze = s.reevaluate.freeze := by
  have counted (id : RouteId) : t.Counted id ↔ s.Counted id := by
    simp only [State.Counted, hr, (hp _).1, (hp _).2]
  have all (test : Route → Bool) : t.allCounted test = s.allCounted test := by
    rw [Bool.eq_iff_iff, State.allCounted_iff, State.allCounted_iff]
    simp only [counted, hr]
  unfold State.reevaluate
  simp only [all, hf]
  split
  · split
    · rfl
    · exact hf
  · split
    · rfl
    · exact hf
  · exact hf
  · exact hf

theorem State.reevaluate_freezing_done {s : State} (hf : s.freeze.state = .freezing)
    (h : ∀ id, s.Counted id → (s.route id).settled = true) : s.reevaluate = s.endRamp .frozen := by
  unfold State.reevaluate
  simp only [hf, if_pos ((s.allCounted_iff Route.settled).mpr h)]

theorem State.reevaluate_freezing_waits {s : State} (hf : s.freeze.state = .freezing)
    (h : ∃ id, s.Counted id ∧ (s.route id).settled = false) : s.reevaluate = s := by
  obtain ⟨id, hc, hs⟩ := h
  unfold State.reevaluate
  simp only [hf]
  refine if_neg fun hall => ?_
  rw [(s.allCounted_iff Route.settled).mp hall id hc] at hs
  cases hs

theorem State.reevaluate_resuming_done {s : State} (hf : s.freeze.state = .resuming)
    (h : ∀ id, s.Counted id → (s.route id).converged = true) : s.reevaluate = s.endRamp .run := by
  unfold State.reevaluate
  simp only [hf, if_pos ((s.allCounted_iff Route.converged).mpr h)]

theorem State.reevaluate_resuming_waits {s : State} (hf : s.freeze.state = .resuming)
    (h : ∃ id, s.Counted id ∧ (s.route id).converged = false) : s.reevaluate = s := by
  obtain ⟨id, hc, hs⟩ := h
  unfold State.reevaluate
  simp only [hf]
  refine if_neg fun hall => ?_
  rw [(s.allCounted_iff Route.converged).mp hall id hc] at hs
  cases hs

theorem State.reevaluate_at_rest {s : State} (hf : s.freeze.state = .run ∨ s.freeze.state = .frozen) :
    s.reevaluate = s := by
  unfold State.reevaluate
  rcases hf with hf | hf <;> simp only [hf]

/-- Settles O13. -/
theorem tearAndReevaluation : Obligations.TearAndReevaluation := by
  intro s
  refine ⟨fun h => ?_, s.tearBatch_closed, State.reevaluate_freezing_done, State.reevaluate_freezing_waits,
    State.reevaluate_resuming_done, State.reevaluate_resuming_waits, State.reevaluate_at_rest⟩
  rw [s.tearBatch_open h]
  exact ⟨rfl, s.abandonBatch_cue⟩

/-! ### Links that leave their state -/

/-- A re-evaluation and a change of a link that leaves its state and plan may be made in either order. -/
theorem State.reevaluate_modPort {s : State} {l : LinkId} {f : Port → Port} (hs : (f (s.port l)).state = (s.port l).state)
    (hp : (f (s.port l)).plan = (s.port l).plan) : s.reevaluate.modPort l f = (s.modPort l f).reevaluate := by
  have freeze : (s.modPort l f).reevaluate.freeze = s.reevaluate.freeze :=
    State.reevaluate_freeze_congr rfl (fun _ => rfl) fun k => by
      rw [State.modPort_port]
      split
      · next hk => rw [hk]; exact ⟨hs, hp⟩
      · exact ⟨rfl, rfl⟩
  rw [State.reevaluate_eq s, State.reevaluate_eq (s.modPort l f), freeze]
  rfl

/-- Settles O10. -/
theorem startTimeoutAndSignalReturn : Obligations.StartTimeoutAndSignalReturn := by
  intro l s
  refine ⟨fun hs ht => ?_, fun h => congrArg _ (if_neg ?_), fun hd hh => ?_, fun h => congrArg _ (if_neg ?_)⟩
  · refine (congrArg _ (if_pos ⟨hs, ht⟩)).trans (congrArg _ ?_)
    rw [State.timeOutStart, State.leaveFor_not_running (by simp [hs]), State.modLinkFlags_eq, State.setPort_setPort,
      State.setPort_port_same]
  · rintro ⟨hs, ht⟩
    exact h.elim (absurd hs) (Nat.not_lt.mpr ht)
  · refine (congrArg _ (if_pos ⟨hd, hh⟩)).trans (congrArg _ ?_)
    rw [State.enterStarting, State.leaveFor_not_running (by simp [hd]), State.modPort, State.setPort_setPort,
      State.setPort_port_same]
  · rintro ⟨hd, hh⟩
    rcases h with h | h
    · exact h hd
    · rw [h] at hh
      cases hh

/-- A RUNNING link goes DOWN with its signal (R123, R125). -/
theorem State.loseSignal_running {s : State} {l : LinkId} (h : (s.port l).state = .running) : s.loseSignal l =
    ((if l = .d then s.tearBatch else s).setPort l
      { (s.port l).stopped .down with flags := { (s.port l).flags with signalLost := true } }).reevaluate := by
  rw [State.loseSignal, State.leaveFor_running h, State.modLinkFlags, State.reevaluate_modPort rfl rfl, State.modPort,
    State.setPort_setPort, State.setPort_port_same]
  rfl

theorem State.loseSignal_halted {s : State} {l : LinkId} (h : (s.port l).state = .halted) : s.loseSignal l =
    s.setPort l { s.port l with state := .down, flags := { (s.port l).flags with signalLost := true } } := by
  rw [State.loseSignal, State.leaveFor_not_running (by simp [h]), State.modLinkFlags_eq, State.setPort_setPort,
    State.setPort_port_same]

/-- Settles O12. -/
theorem signalLossTakesTheLinkDown : Obligations.SignalLossTakesTheLinkDown := by
  intro l s lost
  have loses (h : (s.port l).state = .running ∨ (s.port l).state = .halted) (hs : 2 ≤ (s.port l).silence) :
      exec (.signalLost l) s = .next (s.loseSignal l) := congrArg _ (if_pos ⟨h, hs⟩)
  refine ⟨fun h hs => ?_, fun h hs hl => ?_, fun h hs hl => ?_, fun h => congrArg _ (if_neg ?_)⟩
  · rw [loses (.inr h) hs, State.loseSignal_halted h]
  · rw [loses (.inl h) hs, State.loseSignal_running h, if_neg hl]
  · rw [loses (.inl h) hs, State.loseSignal_running h, if_pos hl, State.tearBatch_setPort]
  · rintro ⟨hr, hs⟩
    rcases h with ⟨hn, hn'⟩ | h
    · exact hr.elim hn hn'
    · exact absurd hs (Nat.not_le.mpr h)

/-! ### The line -/

/-- Settles O19. -/
theorem transmitCompleteFreesTheLine : Obligations.TransmitCompleteFreesTheLine := by
  intro l s
  refine ⟨fun x h => ?_, fun h => ?_⟩
  · show execTransmitComplete l s = _
    unfold execTransmitComplete
    rw [h]
    rfl
  · show execTransmitComplete l s = _
    unfold execTransmitComplete
    rw [h]

/-- A symbol at the receiver of a link that is not OFF. -/
theorem State.symbolArrives_eq {s : State} {l : LinkId} (h : (s.port l).state ≠ .off) (y : LineSymbol) :
    s.symbolArrives l y = s.setPort l ((s.port l).hearing (symbolIsValid y) (y = .idleFill)) := by
  have fill : (if (s.port l).state = .starting then (s.port l).fill.afterSymbol y else (s.port l).fill) =
      ((s.port l).hearing (symbolIsValid y) (y = .idleFill)).fill := by
    rw [FillRun.afterSymbol_eq]
    by_cases hs : (s.port l).state = .starting <;> by_cases hy : y = .idleFill <;> simp [Port.hearing, hs, hy]
  rw [State.symbolArrives, if_neg h, State.modPort, fill]
  rfl

/-- Settles O20. -/
theorem linesFollowTheLinkState : Obligations.LinesFollowTheLinkState := by
  intro l y s
  have arrives (hs : (s.port l).state ≠ .off) : exec (.lineSymbolReceived l y) s =
      .next (s.setPort l ((s.port l).hearing (symbolIsValid y) (y = .idleFill))) :=
    congrArg _ (State.symbolArrives_eq hs y)
  refine ⟨fun h => ?_, fun h => ?_, fun h hl => ?_, fun x h hl => ?_, fun h => congrArg _ (if_pos h),
    fun hs hy => ?_, fun hs hy => ?_, fun hs hy => ?_⟩
  · simp only [State.transmits, h]
  · rcases h with h | h | h <;> simp only [State.transmits, h]
  · simp only [State.transmits, h, hl]
  · simp only [State.transmits, h, hl]
  · rw [arrives hs, hy]; rfl
  · rw [arrives hs]; rcases hy with hy | hy <;> rw [hy] <;> rfl
  · rw [arrives hs]; rcases hy with hy | hy <;> rw [hy] <;> rfl

end Sys2Proof.Machine

/-! PROOFS. The route engine (chapter 3): what one computation of a FIELD route does, and that a build computes each FIELD
route of its template once, from the state it starts in. -/

namespace Sys2Proof.Machine

/-! ### The slew stage -/

theorem slewStage_reaches {limit : Nat} {held target : Int} (h : limit = 0 ∨ (target - held).natAbs ≤ limit) :
    slewStage limit held target = target := by
  refine if_neg ?_
  rintro ⟨hn, hgap⟩
  rcases h with h | h <;> omega

theorem slewStage_rises {limit : Nat} {held target : Int} (hn : limit ≠ 0) (h : (limit : Int) < target - held) :
    slewStage limit held target = held + limit := by
  rw [slewStage, if_pos ⟨hn, by omega⟩, if_pos (by omega)]

theorem slewStage_falls {limit : Nat} {held target : Int} (hn : limit ≠ 0) (h : target - held < -(limit : Int)) :
    slewStage limit held target = held - limit := by
  rw [slewStage, if_pos ⟨hn, by omega⟩, if_neg (by omega)]

theorem slewStage_within {limit : Nat} (held target : Int) (hn : limit ≠ 0) :
    (slewStage limit held target - held).natAbs ≤ limit := by
  by_cases hr : (target - held).natAbs ≤ limit
  · rw [slewStage_reaches (.inr hr)]
    exact hr
  · by_cases hu : (limit : Int) < target - held
    · rw [slewStage_rises hn hu]
      omega
    · rw [slewStage_falls hn (by omega)]
      omega

/-- Between two words a slew stage moves to a number that a word holds. -/
theorem slewStage_toInt (limit : Nat) (held target : Word) :
    (BitVec.ofInt 16 (slewStage limit held.toInt target.toInt)).toInt = slewStage limit held.toInt target.toInt := by
  apply toInt_ofInt_of_between (x := held) (n := target)
  by_cases hr : limit = 0 ∨ (target.toInt - held.toInt).natAbs ≤ limit
  · rw [slewStage_reaches hr]
    omega
  · rw [not_or] at hr
    by_cases hu : (limit : Int) < target.toInt - held.toInt
    · rw [slewStage_rises hr.1 hu]
      omega
    · rw [slewStage_falls hr.1 (by omega)]
      omega

theorem slewLimit_eq (f : FreezeState) (r : RouteRecord) :
    slewLimit f r = if f = .run then r.slew.toNat else r.freezeSlew.toNat := by
  cases f <;> rfl

theorem slewTarget_eq (f : FreezeState) (y4 n : Int) :
    slewTarget f y4 n = if f = .run ∨ f = .resuming then y4 else n := by
  cases f <;> rfl

theorem switchTarget_eq (f : FreezeState) (x n : Word) :
    switchTarget f x n = if f = .run ∨ f = .resuming then x else n := by
  cases f <;> rfl

/-! ### One computation -/

/-- The limited value y4 is a number that a word holds (R52). -/
theorem State.clamped_word (s : State) (id : RouteId) : ∃ w : Word, w.toInt = s.clamped id := by
  unfold State.clamped
  dsimp only
  split
  · exact ⟨_, rfl⟩
  · split
    · exact ⟨_, rfl⟩
    · exact ⟨_, toInt_ofInt_of_between (.inl ⟨Int.not_lt.mp ‹_›, Int.not_lt.mp ‹_›⟩)⟩

/-- The target of a computation of an ANALOG route (R53). -/
def State.slewGoal (s : State) (id : RouteId) : Int :=
  if s.freeze.state = .run ∨ s.freeze.state = .resuming then s.clamped id else (s.route id).record.neutral.toInt

theorem State.slewGoal_word (s : State) (id : RouteId) : ∃ w : Word, w.toInt = s.slewGoal id := by
  unfold State.slewGoal
  split
  · exact s.clamped_word id
  · exact ⟨_, rfl⟩

/-- `State.Clips` as a truth value. -/
def State.noted (s : State) (id : RouteId) : Bool :=
  s.sourceClass (s.route id).record = .analog && s.clamped id ≠ s.unclamped id

theorem State.noted_iff (s : State) (id : RouteId) : s.noted id = true ↔ s.Clips id := by
  simp [State.noted, State.Clips]

theorem State.noted_eq_false {s : State} {id : RouteId} (h : ¬ s.Clips id) : s.noted id = false := by
  rwa [← Bool.not_eq_true, State.noted_iff]

theorem State.computeField_analog {s : State} {id : RouteId} (h : s.sourceClass (s.route id).record = .analog) :
    s.computeField id = (s.setRoute id ((s.route id).afterAnalog s.freeze.state (s.clamped id))).noteClip id
      (s.noted id) := by
  have clip : s.clipsNow (s.route id).record (s.route id).peak = s.noted id := by
    rw [Bool.eq_iff_iff, s.clipsNow_iff id h, s.noted_iff]
  unfold State.computeField
  simp only [h]
  rw [s.limited_eq, clip]

theorem State.computeField_switch {s : State} {id : RouteId} (h : s.sourceClass (s.route id).record = .switch) :
    s.computeField id = s.setRoute id ((s.route id).afterSwitch s.freeze.state
      ((s.cue (cueOfByte (s.route id).record.sourceA)).effective &&& (s.route id).record.careMask)) := by
  unfold State.computeField
  simp only [h]
  rfl

/-- A route's state after its computation. -/
def State.computed (s : State) (id : RouteId) : Route :=
  match s.sourceClass (s.route id).record with
  | .analog => (s.route id).afterAnalog s.freeze.state (s.clamped id)
  | .switch => (s.route id).afterSwitch s.freeze.state
      ((s.cue (cueOfByte (s.route id).record.sourceA)).effective &&& (s.route id).record.careMask)

theorem State.not_clips_of_switch {s : State} {id : RouteId} (h : s.sourceClass (s.route id).record = .switch) :
    ¬ s.Clips id := fun hc => by
  have ha := h.symm.trans hc.1
  cases ha

/-- A computation changes its route and, where it clips, notes the clip (R52, R59). -/
theorem State.computeField_eq (s : State) (id : RouteId) :
    s.computeField id = (s.setRoute id (s.computed id)).noteClip id (s.noted id) := by
  unfold State.computed
  cases h : s.sourceClass (s.route id).record with
  | analog => exact State.computeField_analog h
  | switch =>
    rw [State.computeField_switch h, State.noted_eq_false (State.not_clips_of_switch h)]
    rfl

theorem State.computeField_route_same (s : State) (id : RouteId) : (s.computeField id).route id = s.computed id := by
  rw [State.computeField_eq, State.noteClip_route, State.setRoute_route_same]

theorem State.computeField_route_ne (s : State) {id k : RouteId} (h : k ≠ id) :
    (s.computeField id).route k = s.route k := by
  rw [State.computeField_eq, State.noteClip_route, State.setRoute_route, if_neg h]

theorem State.computed_record (s : State) (id : RouteId) : (s.computed id).record = (s.route id).record := by
  unfold State.computed
  split <;> rfl

theorem State.computed_analog_held {s : State} {id : RouteId} (h : s.sourceClass (s.route id).record = .analog) :
    (s.computed id).held.toInt =
      slewStage (slewLimit s.freeze.state (s.route id).record) (s.route id).held.toInt (s.slewGoal id) := by
  obtain ⟨w, hw⟩ := s.slewGoal_word id
  have held : (s.computed id).held = BitVec.ofInt 16
      (slewStage (slewLimit s.freeze.state (s.route id).record) (s.route id).held.toInt (s.slewGoal id)) := by
    unfold State.computed State.slewGoal
    simp only [h]
    rw [Route.afterAnalog_held, Route.slewed, slewTarget_eq]
  rw [held, ← hw, slewStage_toInt]

/-- The first part of O18: one computation. -/
theorem State.computeField_does (id : RouteId) (s : State) :
    let x := s.route id
    let r := x.record
    let u := s.computeField id
    let y := u.route id
    let f := s.freeze.state
    let limit := if f = .run then r.slew.toNat else r.freezeSlew.toNat
    let target := if f = .run ∨ f = .resuming then s.clamped id else r.neutral.toInt
    let gap := target - x.held.toInt
    let pattern := (s.cue (cueOfByte r.sourceA)).effective &&& r.careMask
    y.record = r ∧ y.armed = x.armed ∧ y.peak = none ∧ (∀ k, k ≠ id → u.route k = s.route k)
      ∧ (y.settled = true ↔ r.kind = .field ∧ y.held = r.neutral)
      ∧ (¬ s.Clips id → u = { s with routes := u.routes })
      ∧ (s.Clips id → u = { s with routes := u.routes, flags := { s.flags with clipped := true }, lastClipped := id })
      ∧ (s.sourceClass r = .analog →
          (limit = 0 ∨ gap.natAbs ≤ limit → y.held.toInt = target)
            ∧ (limit ≠ 0 → (limit : Int) < gap → y.held.toInt = x.held.toInt + limit)
            ∧ (limit ≠ 0 → gap < -(limit : Int) → y.held.toInt = x.held.toInt - limit)
            ∧ (y.converged = true ↔ x.converged = true ∨ (f = .resuming
                ∧ (r.freezeSlew.toNat = 0 ∨ (s.clamped id - x.held.toInt).natAbs ≤ r.freezeSlew.toNat))))
      ∧ (s.sourceClass r = .switch →
          y.held = (if f = .run ∨ f = .resuming then pattern else r.neutral)
            ∧ (y.converged = true ↔ x.converged = true ∨ f = .resuming)) := by
  intro x r u y f limit target gap pattern
  have hy : y = s.computed id := s.computeField_route_same id
  have settled : y.SettledRight := by
    rw [hy]
    unfold State.computed
    split
    · exact Route.afterAnalog_settledRight _ _ _
    · exact Route.afterSwitch_settledRight _ _ _
  have record : y.record = r := hy ▸ s.computed_record id
  have kept : y.armed = x.armed ∧ y.peak = none := by
    rw [hy]
    unfold State.computed
    split <;> exact ⟨rfl, rfl⟩
  refine ⟨record, kept.1, kept.2, fun k hk => s.computeField_route_ne hk, ?_, fun hc => ?_, fun hc => ?_, fun ha => ?_,
    fun hs => ?_⟩
  · rw [← record]
    exact settled
  · show s.computeField id = { s with routes := (s.computeField id).routes }
    rw [State.computeField_eq, State.noted_eq_false hc]
    rfl
  · show s.computeField id = { s with routes := (s.computeField id).routes, flags := _, lastClipped := id }
    rw [State.computeField_eq, (s.noted_iff id).mpr hc]
    rfl
  · have held : y.held.toInt = slewStage limit x.held.toInt target := by
      rw [hy, State.computed_analog_held ha, slewLimit_eq]
      rfl
    have converged : y.converged = (x.converged || (decide (f = .resuming)
        && (decide (r.freezeSlew = 0) || decide ((s.clamped id - x.held.toInt).natAbs ≤ r.freezeSlew.toNat)))) := by
      rw [hy]
      unfold State.computed
      simp only [show s.sourceClass (s.route id).record = .analog from ha]
      rfl
    refine ⟨fun h => held.trans (slewStage_reaches h), fun hn h => held.trans (slewStage_rises hn h),
      fun hn h => held.trans (slewStage_falls hn h), ?_⟩
    rw [converged]
    simp [← BitVec.toNat_inj]
  · have computed : y = x.afterSwitch f pattern := by
      rw [hy]
      unfold State.computed
      simp only [show s.sourceClass (s.route id).record = .switch from hs]
      rfl
    rw [computed]
    refine ⟨switchTarget_eq f pattern r.neutral, ?_⟩
    simp [Route.afterSwitch, Route.refreshSettled]

/-! ### What a computation looks at -/

/-- Two states that a computation of a route does not tell apart. -/
structure State.SameFor (s u : State) (id : RouteId) : Prop where
  route : u.route id = s.route id
  cue : ∀ c, u.cue c = s.cue c
  freeze : u.freeze.state = s.freeze.state

theorem State.SameFor.refl (s : State) (id : RouteId) : s.SameFor s id := ⟨rfl, fun _ => rfl, rfl⟩

theorem State.SameFor.selected {s u : State} {id : RouteId} (h : s.SameFor u id) : u.selected id = s.selected id := by
  simp only [State.selected, h.route, h.cue]

theorem State.SameFor.unclamped {s u : State} {id : RouteId} (h : s.SameFor u id) :
    u.unclamped id = s.unclamped id := by
  simp only [State.unclamped, h.route, h.selected]

theorem State.SameFor.clamped {s u : State} {id : RouteId} (h : s.SameFor u id) : u.clamped id = s.clamped id := by
  simp only [State.clamped, h.route, h.unclamped]

theorem State.SameFor.sourceClass {s u : State} {id : RouteId} (h : s.SameFor u id) (r : RouteRecord) :
    u.sourceClass r = s.sourceClass r := by
  simp only [State.sourceClass_eq, h.cue]

theorem State.SameFor.clips {s u : State} {id : RouteId} (h : s.SameFor u id) : u.Clips id ↔ s.Clips id := by
  simp only [State.Clips, h.route, h.clamped, h.unclamped, h.sourceClass]

theorem State.SameFor.computed {s u : State} {id : RouteId} (h : s.SameFor u id) : u.computed id = s.computed id := by
  simp only [State.computed, h.route, h.clamped, h.sourceClass, h.cue, h.freeze]

/-- A computation of one route does not tell in any other. -/
theorem State.computeField_same (s : State) {id k : RouteId} (h : k ≠ id) : s.SameFor (s.computeField id) k where
  route := s.computeField_route_ne h
  cue c := by rw [State.computeField_eq, State.noteClip_cue]; rfl
  freeze := by rw [State.computeField_eq, State.noteClip_eq]; rfl

/-! ### The route at a position -/

theorem State.computeField_record (s : State) (id k : RouteId) :
    ((s.computeField id).route k).record = (s.route k).record := by
  by_cases h : k = id
  · rw [h, State.computeField_route_same, State.computed_record]
  · rw [State.computeField_route_ne _ h]

theorem State.computeField_port (s : State) (id : RouteId) (l : LinkId) : (s.computeField id).port l = s.port l := by
  rw [State.computeField_eq, State.noteClip_port]
  rfl

theorem State.computeField_positions {s : State} (h : s.FieldPositionsLawful) (id : RouteId) :
    (s.computeField id).FieldPositionsLawful :=
  h.of_eq (s.computeField_record id) fun l => by rw [State.computeField_port]

/-- A FIELD route of a template that fills a position. -/
def State.FillsAt (s : State) (l : LinkId) (t : BitVec 2) (i : Nat) (id : RouteId) : Prop :=
  s.InTemplate l t id ∧ (s.route id).record.position.toNat = i

theorem State.fillsAt_iff (s : State) (l : LinkId) (t : BitVec 2) (i : Nat) (id : RouteId) :
    s.FillsAt l t i id ↔ (s.route id).record.fills l t i = true := by
  rw [RouteRecord.fills_iff, State.FillsAt, State.InTemplate, and_assoc, and_assoc]

/-- No two FIELD routes fill one position (R44). -/
theorem State.FillsAt.unique {s : State} (h : s.FieldPositionsLawful) {l : LinkId} {t : BitVec 2} {i : Nat}
    {id k : RouteId} (hid : s.FillsAt l t i id) (hk : s.FillsAt l t i k) : k = id := by
  by_contra hne
  obtain ⟨⟨hf, rfl, rfl⟩, rfl⟩ := hid
  have hfree := (h id hf).2 k hne
  rw [(s.fillsAt_iff _ _ _ _).mp hk] at hfree
  cases hfree

theorem State.routeAt_eq_some {s : State} {l : LinkId} {t : BitVec 2} {i : Nat} {id : RouteId}
    (h : s.routeAt l t i = some id) : s.FillsAt l t i id :=
  (s.fillsAt_iff l t i id).mpr (by simpa using List.find?_some h)

theorem State.routeAt_eq_none {s : State} {l : LinkId} {t : BitVec 2} {i : Nat} (h : s.routeAt l t i = none)
    (id : RouteId) : ¬ s.FillsAt l t i id := by
  rw [State.fillsAt_iff]
  simpa using List.find?_eq_none.mp h id (List.mem_finRange id)

theorem State.routeAt_of_fills {s : State} (h : s.FieldPositionsLawful) {l : LinkId} {t : BitVec 2} {i : Nat}
    {id : RouteId} (hid : s.FillsAt l t i id) : s.routeAt l t i = some id := by
  cases hr : s.routeAt l t i with
  | none => exact absurd hid (State.routeAt_eq_none hr id)
  | some k => exact congrArg some (hid.unique h (State.routeAt_eq_some hr))

theorem State.routeAt_congr {s u : State} (h : ∀ id, (u.route id).record = (s.route id).record) (l : LinkId)
    (t : BitVec 2) (i : Nat) : u.routeAt l t i = s.routeAt l t i := by
  simp only [State.routeAt, h]

theorem State.fillsAt_congr {s u : State} (h : ∀ id, (u.route id).record = (s.route id).record) (l : LinkId)
    (t : BitVec 2) (i : Nat) (id : RouteId) : u.FillsAt l t i id ↔ s.FillsAt l t i id := by
  simp only [State.FillsAt, State.InTemplate, h]

/-! ### A build -/

/-- The bytes at a position of a template, from the held values as they stand (R54 to R56, R60). -/
def State.fieldAt (s : State) (l : LinkId) (t : BitVec 2) (i : Nat) : List Byte :=
  match s.routeAt l t i with
  | none => encodeEmpty (((s.port l).template t).isWide i)
  | some id => s.heldBytes id (((s.port l).template t).isWide i) (s.port l).settings.order

/-- A FIELD route of the template at one of a run of positions. -/
def State.AtPositions (s : State) (l : LinkId) (t : BitVec 2) (ps : List Nat) (id : RouteId) : Prop :=
  s.InTemplate l t id ∧ (s.route id).record.position.toNat ∈ ps

theorem State.atPositions_cons (s : State) (l : LinkId) (t : BitVec 2) (i : Nat) (ps : List Nat) (id : RouteId) :
    s.AtPositions l t (i :: ps) id ↔ s.FillsAt l t i id ∨ s.AtPositions l t ps id := by
  rw [State.AtPositions, List.mem_cons, and_or_left]
  rfl

/-- `v` is `u` after the fields of a run of positions of a template were built, with their bytes (R52, R59, R60). -/
structure State.Built (u : State) (l : LinkId) (t : BitVec 2) (ps : List Nat) (v : State) (fields : List (List Byte)) :
    Prop where
  rest : v = { u with
    routes := v.routes, flags := { u.flags with clipped := v.flags.clipped }, lastClipped := v.lastClipped }
  computed : ∀ id, u.AtPositions l t ps id → v.route id = u.computed id
  others : ∀ id, ¬ u.AtPositions l t ps id → v.route id = u.route id
  fields : fields = ps.map (v.fieldAt l t)
  clipped : v.flags.clipped = true ↔ u.flags.clipped = true ∨ ∃ id, u.AtPositions l t ps id ∧ u.Clips id
  lastKept : (∀ id, u.AtPositions l t ps id → ¬ u.Clips id) → v.lastClipped = u.lastClipped
  lastSet : ∀ id, u.AtPositions l t ps id → u.Clips id →
    (∀ k, u.AtPositions l t ps k → u.Clips k →
      (u.route k).record.position.toNat ≤ (u.route id).record.position.toNat) → v.lastClipped = id

theorem State.Built.nil (u : State) (l : LinkId) (t : BitVec 2) : u.Built l t [] u [] where
  rest := rfl
  computed _ h := absurd h.2 List.not_mem_nil
  others _ _ := rfl
  fields := rfl
  clipped := ⟨.inl, fun h => h.elim id fun ⟨_, ha, _⟩ => absurd ha.2 List.not_mem_nil⟩
  lastKept _ := rfl
  lastSet _ h := absurd h.2 List.not_mem_nil

theorem State.Built.port {u v : State} {l : LinkId} {t : BitVec 2} {ps : List Nat} {fs : List (List Byte)}
    (h : u.Built l t ps v fs) (k : LinkId) : v.port k = u.port k := by rw [h.rest]; rfl

theorem State.Built.cue {u v : State} {l : LinkId} {t : BitVec 2} {ps : List Nat} {fs : List (List Byte)}
    (h : u.Built l t ps v fs) (c : CueId) : v.cue c = u.cue c := by rw [h.rest]; rfl

theorem State.Built.record {u v : State} {l : LinkId} {t : BitVec 2} {ps : List Nat} {fs : List (List Byte)}
    (h : u.Built l t ps v fs) (id : RouteId) : (v.route id).record = (u.route id).record := by
  by_cases hid : u.AtPositions l t ps id
  · rw [h.computed id hid, State.computed_record]
  · rw [h.others id hid]

/-- A position that no route fills leaves all to the rest of the run. -/
theorem State.Built.cons_empty {u v : State} {l : LinkId} {t : BitVec 2} {i : Nat} {ps : List Nat}
    {fs : List (List Byte)} (h : u.Built l t ps v fs) (hi : u.routeAt l t i = none) :
    u.Built l t (i :: ps) v (encodeEmpty (((u.port l).template t).isWide i) :: fs) := by
  have same (id : RouteId) : u.AtPositions l t (i :: ps) id ↔ u.AtPositions l t ps id := by
    rw [State.atPositions_cons, or_iff_right (State.routeAt_eq_none hi id)]
  have field : v.fieldAt l t i = encodeEmpty (((u.port l).template t).isWide i) := by
    simp only [State.fieldAt, State.routeAt_congr h.record, hi, h.port]
  constructor
  · exact h.rest
  · simpa only [same] using h.computed
  · simpa only [same] using h.others
  · rw [h.fields, List.map_cons, field]
  · simpa only [same] using h.clipped
  · simpa only [same] using h.lastKept
  · simpa only [same] using h.lastSet

theorem State.heldBytes_congr {u v : State} {id : RouteId} (hr : v.route id = u.route id) (hc : ∀ c, v.cue c = u.cue c)
    (wide : Bool) (order : ByteOrder) : v.heldBytes id wide order = u.heldBytes id wide order := by
  simp only [State.heldBytes, State.sourceClass_eq, hr, hc]

/-- A position that a route fills: its computation, then the rest of the run, at positions above it. -/
theorem State.Built.cons_computed {u v : State} {l : LinkId} {t : BitVec 2} {i : Nat} {ps : List Nat}
    {fs : List (List Byte)} {id : RouteId} (hu : u.FieldPositionsLawful) (hi : u.routeAt l t i = some id)
    (hps : ∀ j ∈ ps, i < j) (h : (u.computeField id).Built l t ps v fs) :
    u.Built l t (i :: ps) v ((u.computeField id).heldBytes id (((u.port l).template t).isWide i)
      (u.port l).settings.order :: fs) := by
  have hid : u.FillsAt l t i id := State.routeAt_eq_some hi
  have inRest (k : RouteId) : (u.computeField id).AtPositions l t ps k ↔ u.AtPositions l t ps k := by
    simp only [State.AtPositions, State.InTemplate, State.computeField_record]
  have notRest : ¬ u.AtPositions l t ps id := fun hrest => by
    have := hps _ hrest.2
    rw [hid.2] at this
    exact lt_irrefl i this
  have other {k : RouteId} (hk : u.AtPositions l t ps k) : k ≠ id := fun e => notRest (e ▸ hk)
  have clips {k : RouteId} (hk : u.AtPositions l t ps k) : (u.computeField id).Clips k ↔ u.Clips k :=
    (u.computeField_same (other hk)).clips
  have split (k : RouteId) : u.AtPositions l t (i :: ps) k ↔ k = id ∨ u.AtPositions l t ps k := by
    rw [State.atPositions_cons]
    exact or_congr_left ⟨fun hk => hid.unique hu hk, fun e => e ▸ hid⟩
  have own : v.route id = u.computed id := by
    rw [h.others id (by rwa [inRest]), State.computeField_route_same]
  have flags : (u.computeField id).flags.clipped = (u.flags.clipped || u.noted id) := by
    rw [State.computeField_eq, State.noteClip_eq]
    rfl
  have last : (u.computeField id).lastClipped = if u.noted id then id else u.lastClipped := by
    rw [State.computeField_eq, State.noteClip_eq]
    rfl
  refine ⟨?_, fun k hk => ?_, fun k hk => ?_, ?_, ?_, fun hnone => ?_, fun k hk hclip hmax => ?_⟩
  · have hrest := h.rest
    rw [State.computeField_eq, State.noteClip_eq] at hrest
    generalize v.routes = r, v.flags.clipped = c, v.lastClipped = n at hrest ⊢
    rw [hrest]
    rfl
  · rcases (split k).mp hk with rfl | hk
    · exact own
    · rw [h.computed k ((inRest k).mpr hk), (u.computeField_same (other hk)).computed]
  · rw [split, not_or] at hk
    rw [h.others k (by rw [inRest]; exact hk.2), State.computeField_route_ne _ hk.1]
  · have port : v.port l = u.port l := by rw [h.port, State.computeField_port]
    have field : v.fieldAt l t i = (u.computeField id).heldBytes id (((u.port l).template t).isWide i)
        (u.port l).settings.order := by
      have records (k : RouteId) : (v.route k).record = (u.route k).record := by
        rw [h.record, State.computeField_record]
      simp only [State.fieldAt, State.routeAt_congr records, hi, port]
      exact State.heldBytes_congr (own.trans (u.computeField_route_same id).symm) h.cue _ _
    rw [h.fields, List.map_cons, field]
  · rw [h.clipped, flags]
    simp only [Bool.or_eq_true, State.noted_iff, inRest, split]
    constructor
    · rintro ((hc | hc) | ⟨k, hk, hc⟩)
      · exact .inl hc
      · exact .inr ⟨id, .inl rfl, hc⟩
      · exact .inr ⟨k, .inr hk, (clips hk).mp hc⟩
    · rintro (hc | ⟨k, rfl | hk, hc⟩)
      · exact .inl (.inl hc)
      · exact .inl (.inr hc)
      · exact .inr ⟨k, hk, (clips hk).mpr hc⟩
  · rw [h.lastKept fun k hk => (clips ((inRest k).mp hk)).not.mpr (hnone k ((split k).mpr (.inr ((inRest k).mp hk)))),
      last, State.noted_eq_false (hnone id ((split id).mpr (.inl rfl)))]
    rfl
  · rcases (split k).mp hk with rfl | hk
    · rw [h.lastKept fun j hj hc => ?_, last, (u.noted_iff _).mpr hclip]
      · rfl
      · have hj := (inRest j).mp hj
        have hle := hmax j ((split j).mpr (.inr hj)) ((clips hj).mp hc)
        have hlt := hps _ hj.2
        rw [← hid.2] at hlt
        exact absurd hle (Nat.not_le.mpr hlt)
    · refine h.lastSet k ((inRest k).mpr hk) ((clips hk).mpr hclip) fun j hj hc => ?_
      have hj := (inRest j).mp hj
      rw [State.computeField_record, State.computeField_record]
      exact hmax j ((split j).mpr (.inr hj)) ((clips hj).mp hc)

theorem State.buildFields_built (l : LinkId) (t : BitVec 2) (ps : List Nat) (hps : ps.Pairwise (· < ·)) :
    ∀ u : State, u.FieldPositionsLawful → u.Built l t ps (u.buildFields l t ps).1 (u.buildFields l t ps).2 := by
  induction ps with
  | nil => exact fun u _ => .nil u l t
  | cons i rest ih =>
    intro u hu
    obtain ⟨hi, hrest⟩ := List.pairwise_cons.mp hps
    unfold State.buildFields
    dsimp only
    split
    · next hnone => exact (ih hrest u hu).cons_empty hnone
    · next id hsome => exact .cons_computed hu hsome hi (ih hrest _ (State.computeField_positions hu id))

/-- The positions of a template. -/
def Template.positions (t : Template) : List Nat := List.range t.fields

theorem State.buildTemplate_built {u : State} (hu : u.FieldPositionsLawful) (l : LinkId) (t : BitVec 2) :
    u.Built l t ((u.port l).template t).positions (u.buildTemplate l t).1 (u.buildTemplate l t).2 :=
  State.buildFields_built l t _ List.pairwise_lt_range u hu

/-- Every FIELD route of a template is at one of its positions (R84). -/
theorem State.atPositions_iff {u : State} (hu : u.FieldPositionsLawful) (l : LinkId) (t : BitVec 2) (id : RouteId) :
    u.AtPositions l t ((u.port l).template t).positions id ↔ u.InTemplate l t id := by
  refine ⟨And.left, fun h => ⟨h, List.mem_range.mpr ?_⟩⟩
  obtain ⟨hf, rfl, rfl⟩ := h
  exact (hu id hf).1

/-- The second part of O18: a build. -/
theorem State.buildTemplate_does (l : LinkId) (t : BitVec 2) (s : State) (hs : s.FieldPositionsLawful) :
    let tmpl := (s.port l).template t
    let built := s.buildTemplate l t
    let order := (s.port l).settings.order
    (∀ id, s.InTemplate l t id → built.1.route id = (s.computeField id).route id)
      ∧ (∀ id, ¬ s.InTemplate l t id → built.1.route id = s.route id)
      ∧ built.2.length = tmpl.fields
      ∧ (∀ id, s.InTemplate l t id →
          let position := (s.route id).record.position.toNat
          let sent := (built.1.route id).held
          (s.sourceClass (s.route id).record = .analog →
              built.2[position]? = some (encodeAnalog (tmpl.isWide position) order sent))
            ∧ (s.sourceClass (s.route id).record = .switch →
                built.2[position]? = some (encodeSwitch (tmpl.isWide position) order sent)))
      ∧ (∀ i, i < tmpl.fields → (∀ id, (s.route id).record.fills l t i = false) →
          built.2[i]? = some (if tmpl.isWide i then [0, 0] else [0]))
      ∧ (built.1.flags.clipped = true ↔ s.flags.clipped = true ∨ ∃ id, s.InTemplate l t id ∧ s.Clips id)
      ∧ ((∀ id, s.InTemplate l t id → ¬ s.Clips id) → built.1.lastClipped = s.lastClipped)
      ∧ (∀ id, s.InTemplate l t id → s.Clips id →
          (∀ k, s.InTemplate l t k → s.Clips k →
            (s.route k).record.position.toNat ≤ (s.route id).record.position.toNat) →
          built.1.lastClipped = id)
      ∧ built.1 = { s with routes := built.1.routes, flags := { s.flags with clipped := built.1.flags.clipped },
                           lastClipped := built.1.lastClipped } := by
  intro tmpl built order
  obtain ⟨hrest, hcomputed, hothers, hfields, hclipped, hkept, hset⟩ := s.buildTemplate_built hs l t
  have record := (s.buildTemplate_built hs l t).record
  have port := (s.buildTemplate_built hs l t).port l
  have cue := (s.buildTemplate_built hs l t).cue
  simp only [State.atPositions_iff hs] at hcomputed hothers hclipped hkept hset
  have place {i : Nat} (hi : i < tmpl.fields) : built.2[i]? = some (built.1.fieldAt l t i) := by
    rw [hfields, List.getElem?_map, Template.positions, List.getElem?_range hi]
    rfl
  have field {id : RouteId} (h : s.InTemplate l t id) : built.2[(s.route id).record.position.toNat]? = some
      (built.1.heldBytes id (tmpl.isWide (s.route id).record.position.toNat) order) := by
    have hat : built.1.routeAt l t (s.route id).record.position.toNat = some id := by
      rw [State.routeAt_congr record]
      exact State.routeAt_of_fills hs ⟨h, rfl⟩
    rw [place (List.mem_range.mp ((State.atPositions_iff hs l t id).mpr h).2)]
    simp only [State.fieldAt, hat, built, port]
    rfl
  have held (id : RouteId) : built.1.sourceClass (built.1.route id).record = s.sourceClass (s.route id).record := by
    rw [record, State.sourceClass_eq, cue]
    rfl
  refine ⟨fun id h => (hcomputed id h).trans (s.computeField_route_same id).symm, hothers, s.buildTemplate_length l t,
    fun id h => ⟨fun ha => ?_, fun ha => ?_⟩, fun i hi hnone => ?_, hclipped, hkept, hset, hrest⟩
  · rw [field h]
    simp only [State.heldBytes, held, ha]
  · rw [field h]
    simp only [State.heldBytes, held, ha]
  · have hat : built.1.routeAt l t i = none := by
      rw [State.routeAt_congr record, State.routeAt, List.find?_eq_none]
      exact fun id _ => by simp [hnone id]
    rw [place hi]
    simp only [State.fieldAt, hat, built, port]
    rfl

/-- Settles O18. -/
theorem buildComputesTheFieldsOfOneInstant : Obligations.BuildComputesTheFieldsOfOneInstant :=
  ⟨State.computeField_does, State.buildTemplate_does⟩

end Sys2Proof.Machine

/-! PROOFS. Offers to the event queues and the evaluation of EVENT routes (chapter 4), and what a commit notice leaves of a
FIELD route. -/

namespace Sys2Proof.Machine

/-! ### Offers -/

theorem any_isEventOf_iff (q : List QueueRecord) (id : RouteId) :
    q.any (QueueRecord.isEventOf id) = true ↔ ∃ w, QueueRecord.cueEvent w ∈ q ∧ w.route = id := by
  rw [List.any_eq_true]
  constructor
  · rintro ⟨r, hr, h⟩
    cases r with
    | cueEvent w => exact ⟨w, hr, by simpa [QueueRecord.isEventOf] using h⟩
    | reply m => cases h
  · rintro ⟨w, hw, h⟩
    exact ⟨_, hw, by simpa [QueueRecord.isEventOf] using h⟩

theorem State.offerCueEvent_merges {s : State} {l : LinkId} {e : CueEvent}
    (h : ∃ w, QueueRecord.cueEvent w ∈ (s.port l).queue ∧ w.route = e.route) : s.offerCueEvent l e =
      s.setPort l { s.port l with queue := (s.port l).queue.map (QueueRecord.merged e) } :=
  if_pos ((any_isEventOf_iff _ _).mpr h)

theorem State.offerCueEvent_new {s : State} {l : LinkId} {e : CueEvent}
    (h : ∀ w, QueueRecord.cueEvent w ∈ (s.port l).queue → w.route ≠ e.route) : s.offerCueEvent l e =
      if (s.port l).queue.length < 16 then s.setPort l { s.port l with queue := (s.port l).queue ++ [.cueEvent e] }
      else s.setPort l { s.port l with flags := { (s.port l).flags with eventDrop := true } } := by
  refine if_neg ?_
  rw [any_isEventOf_iff]
  rintro ⟨w, hw, hr⟩
  exact h w hw hr

/-- Settles O28. -/
theorem offersMergeAppendOrDrop : Obligations.OffersMergeAppendOrDrop := by
  intro l e s q
  refine ⟨fun h => ⟨_, State.offerCueEvent_merges h, List.length_map _, fun i => ?_⟩, fun h hq => ?_, fun h hq => ?_,
    fun result => by cases result <;> rfl, fun tag code result count data => ⟨fun hr hroom => ?_, fun h => ?_⟩⟩
  · rw [List.getElem?_map]
    cases (s.port l).queue[i]? with
    | none => rfl
    | some r =>
      cases r with
      | cueEvent w =>
        simp only [Option.map_some, QueueRecord.merged]
        split <;> rfl
      | reply m => rfl
  · rw [State.offerCueEvent_new h, if_pos hq]
  · rw [State.offerCueEvent_new h, if_neg (Nat.not_lt.mpr hq)]
  · exact s.offerReply_joins tag code result count data hr hroom
  · exact s.offerReply_lost tag code result count data h

/-! ### The threshold test -/

theorem State.evaluate_skipped {s : State} {id : RouteId} (h : s.freeze.state = .freezing ∨ s.freeze.state = .frozen
    ∨ (s.port (s.route id).record.link).state ≠ .running) : s.evaluate id = s := by
  refine if_neg ?_
  rw [State.evaluates_iff]
  rintro ⟨hf, hr⟩
  rcases h with h | h | h
  · exact hf (.inl h)
  · exact hf (.inr h)
  · exact h hr

theorem State.evaluates_of {s : State} {l : LinkId} (hf : s.freeze.state = .run ∨ s.freeze.state = .resuming)
    (hr : (s.port l).state = .running) : s.evaluates l = true := by
  rw [State.evaluates_iff]
  refine ⟨?_, hr⟩
  rintro (h | h) <;> rcases hf with hf | hf <;> rw [h] at hf <;> cases hf

/-- The record that an EVENT route offers when it fires with a value (R71). -/
def State.firing (s : State) (id : RouteId) (value : Word) : CueEvent :=
  let r := (s.route id).record
  { route := id, cue := r.sourceA, eventClass := r.eventClass, value := value, stepTag := s.batch.currentTag,
    receiverAddress := r.receiverAddress, eligible := s.now + 100 }

theorem State.fire_eq (s : State) (id : RouteId) (value : Word) :
    s.fire id value = s.offerCueEvent (s.route id).record.link (s.firing id value) := rfl

/-- A threshold test by its four outcomes (R67, R68). -/
theorem State.testThreshold_eq (s : State) (id : RouteId) (y4 : Int) : s.testThreshold id y4 =
    if (s.route id).armed = true then
      if (s.route id).record.reached y4 = true then
        (s.setRoute id { s.route id with armed := false }).offerCueEvent (s.route id).record.link
          (s.firing id (BitVec.ofInt 16 y4))
      else s
    else if (s.route id).record.returned y4 = true then s.setRoute id { s.route id with armed := true }
    else s := by
  unfold State.testThreshold
  dsimp only
  rw [State.fire_eq]
  simp only [State.firing, State.setRoute_route_same]
  rfl

theorem RouteRecord.reached_rising {r : RouteRecord} (h : r.direction = .rising) (y4 : Int) :
    r.reached y4 = true ↔ r.threshold.toInt ≤ y4 := by simp [RouteRecord.reached, h]

theorem RouteRecord.reached_falling {r : RouteRecord} (h : r.direction = .falling) (y4 : Int) :
    r.reached y4 = true ↔ y4 ≤ r.threshold.toInt := by simp [RouteRecord.reached, h]

theorem RouteRecord.returned_rising {r : RouteRecord} (h : r.direction = .rising) (y4 : Int) :
    r.returned y4 = true ↔ y4 < r.threshold.toInt - r.hysteresis.toNat := by simp [RouteRecord.returned, h]

theorem RouteRecord.returned_falling {r : RouteRecord} (h : r.direction = .falling) (y4 : Int) :
    r.returned y4 = true ↔ r.threshold.toInt + r.hysteresis.toNat < y4 := by simp [RouteRecord.returned, h]

/-- An evaluation of an ANALOG route is its threshold test, the clip noted (R62, R67, R68). -/
theorem State.evaluate_analog {s : State} {id : RouteId} (hf : s.freeze.state = .run ∨ s.freeze.state = .resuming)
    (hr : (s.port (s.route id).record.link).state = .running) (ha : s.sourceClass (s.route id).record = .analog) :
    s.evaluate id = (s.noteClip id (s.clipsNow (s.route id).record none)).testThreshold id
      (s.limited (s.route id).record none) := by
  unfold State.evaluate
  rw [if_pos (State.evaluates_of hf hr)]
  simp only [ha]
  rfl

theorem State.evaluate_switch {s : State} {id : RouteId} (hf : s.freeze.state = .run ∨ s.freeze.state = .resuming)
    (hr : (s.port (s.route id).record.link).state = .running) (hs : s.sourceClass (s.route id).record = .switch) :
    s.evaluate id = s.evaluateSwitch id := by
  unfold State.evaluate
  rw [if_pos (State.evaluates_of hf hr)]
  simp only [hs]

/-! ### A notice -/

theorem State.peakUpdated_eq (s : State) (cues : List CueId) (x : Route) : s.peakUpdated cues x =
    if x.record.kind = .field ∧ x.record.combine = .peak ∧ cueOfByte x.record.sourceA ∈ cues then
      { x with peak := some (x.peakWith (s.cue (cueOfByte x.record.sourceA)).effective) }
    else x := by
  unfold State.peakUpdated
  simp only [Bool.and_eq_true, decide_eq_true_eq, List.contains_iff_mem, and_assoc, peakAfter_eq]
  rfl

theorem State.peakUpdated_record (s : State) (cues : List CueId) (x : Route) : (s.peakUpdated cues x).record = x.record := by
  rw [State.peakUpdated_eq]
  split <;> rfl

theorem State.mem_eventRoutesOf (s : State) (cues : List CueId) (id : RouteId) : id ∈ s.eventRoutesOf cues ↔
    (s.route id).record.kind = .event ∧ (cueOfByte (s.route id).record.sourceA ∈ cues
      ∨ (s.sourceClass (s.route id).record = .analog ∧ (s.route id).record.sourceBPresent = true
        ∧ cueOfByte (s.route id).record.sourceB ∈ cues)) := by
  simp [State.eventRoutesOf, State.concerns, allRoutes, and_assoc]

/-- Settles O27: a skip by the test of R66, an evaluation by the equations of its threshold test or its switch test, a
notice by the list of the routes it concerns. -/
theorem eventRoutesFireAtTheirConditions : Obligations.EventRoutesFireAtTheirConditions := by
  refine ⟨fun id s => State.evaluate_skipped, fun id s => ?analog, fun cues s => ?notice, fun id s => ?switch⟩
  case analog =>
    intro x r y4 base fired T H hf hr ha
    have evaluated : s.evaluate id = base.testThreshold id y4 := State.evaluate_analog hf hr ha
    have route : base.route id = x := s.noteClip_route id _ id
    have firing : base.firing id (BitVec.ofInt 16 y4) = fired := by
      simp only [State.firing, route]
      show ({ route := id, stepTag := (s.noteClip id _).batch.currentTag, eligible := (s.noteClip id _).now + 100, .. } :
        CueEvent) = fired
      rw [State.noteClip_eq]
    rw [evaluated, State.testThreshold_eq, route, firing]
    refine ⟨fun hd harm hy => ?_, fun hd harm hy => ?_, fun hd harm hy => ?_, fun hd harm hy => ?_,
      fun hd harm hy => ?_, fun hd harm hy => ?_, fun hd harm hy => ?_, fun hd harm hy => ?_⟩
    · rw [if_pos harm, if_pos ((RouteRecord.reached_rising hd y4).mpr hy)]
    · rw [if_pos harm, if_neg ((RouteRecord.reached_rising hd y4).not.mpr (Int.not_le.mpr hy))]
    · rw [if_neg (by simp [harm]), if_pos ((RouteRecord.returned_rising hd y4).mpr hy)]
    · rw [if_neg (by simp [harm]), if_neg ((RouteRecord.returned_rising hd y4).not.mpr (Int.not_lt.mpr hy))]
    · rw [if_pos harm, if_pos ((RouteRecord.reached_falling hd y4).mpr hy)]
    · rw [if_pos harm, if_neg ((RouteRecord.reached_falling hd y4).not.mpr (Int.not_le.mpr hy))]
    · rw [if_neg (by simp [harm]), if_pos ((RouteRecord.returned_falling hd y4).mpr hy)]
    · rw [if_neg (by simp [harm]), if_neg ((RouteRecord.returned_falling hd y4).not.mpr (Int.not_lt.mpr hy))]
  case notice =>
    refine ⟨(s.updatePeaks cues).eventRoutesOf cues, s.updatePeaks cues, List.Pairwise.filter _ (List.pairwise_lt_finRange 384), fun id => ?_, rfl,
      fun id => ?_, rfl⟩
    · rw [State.mem_eventRoutesOf, State.updatePeaks_route, State.peakUpdated_record]
      rfl
    · rw [State.updatePeaks_route, State.peakUpdated_eq]
  case switch =>
    intro r e hf hr hs
    rw [State.evaluate_switch hf hr hs]
    exact ⟨fun h => if_neg h, fun h => if_pos h⟩

/-! ### What a notice leaves of a FIELD route -/

theorem State.offerCueEvent_route (s : State) (l : LinkId) (e : CueEvent) (k : RouteId) :
    (s.offerCueEvent l e).route k = s.route k := by
  obtain ⟨q, f, h⟩ := s.offerCueEvent_spec l e
  rw [h]
  rfl

/-- An evaluation changes no route but its own. -/
theorem State.evaluate_route_ne (s : State) {id k : RouteId} (h : k ≠ id) : (s.evaluate id).route k = s.route k := by
  unfold State.evaluate
  split
  · split
    · unfold State.evaluateSwitch
      dsimp only
      split
      · rfl
      · exact State.offerCueEvent_route _ _ _ _
    · unfold State.evaluateAnalog
      rw [State.testThreshold_eq]
      split
      · split
        · rw [State.offerCueEvent_route, State.setRoute_route, if_neg h, State.noteClip_route]
        · exact State.noteClip_route _ _ _ _
      · split
        · rw [State.setRoute_route, if_neg h, State.noteClip_route]
        · exact State.noteClip_route _ _ _ _
  · rfl

theorem State.evaluateAll_route {ids : List RouteId} {k : RouteId} (h : k ∉ ids) :
    ∀ s : State, (ids.foldl State.evaluate s).route k = s.route k := by
  induction ids with
  | nil => exact fun _ => rfl
  | cons id rest ih =>
    intro s
    rw [List.mem_cons, not_or] at h
    exact (ih h.2 _).trans (s.evaluate_route_ne h.1)

/-- Of a FIELD route a notice changes the peak register alone (R57). -/
theorem State.takeNotice_field {s : State} {id : RouteId} (h : (s.route id).record.kind = .field) (cues : List CueId) :
    (s.takeNotice cues).route id = s.peakUpdated cues (s.route id) := by
  have notEvent : id ∉ (s.updatePeaks cues).eventRoutesOf cues := fun hm => by
    have he := ((State.mem_eventRoutesOf _ _ _).mp hm).1
    rw [State.updatePeaks_route, State.peakUpdated_record, h] at he
    cases he
  exact (State.evaluateAll_route notEvent _).trans (s.updatePeaks_route cues id)

theorem State.mapRoutes_id {s : State} {f : Route → Route} (h : ∀ x, f x = x) : s.mapRoutes f = s := by
  have : mapEach f s.routes = s.routes := Vector.ext fun i hi => by rw [mapEach_get, h]
  rw [State.mapRoutes, this]

/-- A notice of no cue does nothing. -/
theorem State.takeNotice_nil (s : State) : s.takeNotice [] = s := by
  have peaks : s.updatePeaks [] = s := State.mapRoutes_id fun x => by
    rw [State.peakUpdated_eq]
    simp
  have events : s.eventRoutesOf [] = [] := by
    rw [List.eq_nil_iff_forall_not_mem]
    intro id h
    simpa using (s.mem_eventRoutesOf [] id).mp h
  rw [State.takeNotice, peaks, events]
  rfl

end Sys2Proof.Machine

/-! PROOFS. Frames received (chapter 7.4): frames that are not taken, first and gapped frames, check failures. -/

namespace Sys2Proof.Machine

/-! ### A frame's arrival -/

/-- A request row is the arrival of its frame on Link D, handed on to work of its own (log entry 6). -/
theorem exec_request {c : Instr} {seq : Byte} (h : requestSeq c = some seq) :
    ∃ work : State → State, ∀ s, exec c s = .next (s.frameArrives .d seq work) := by
  cases c with
  | arm _ tag args => cases h; exact ⟨fun s => s.takeArm tag args, fun _ => rfl⟩
  | disarm _ tag args => cases h; exact ⟨fun s => s.takeDisarm tag args, fun _ => rfl⟩
  | status _ tag args => cases h; exact ⟨fun s => s.takeStatus tag args, fun _ => rfl⟩
  | cursor _ tag args => cases h; exact ⟨fun s => s.takeCursor tag args, fun _ => rfl⟩
  | put _ tag args => cases h; exact ⟨fun s => s.takePut tag args, fun _ => rfl⟩
  | get _ tag args => cases h; exact ⟨fun s => s.takeGet tag args, fun _ => rfl⟩
  | fill _ tag args => cases h; exact ⟨fun s => s.takeFill tag args, fun _ => rfl⟩
  | override _ tag args => cases h; exact ⟨fun s => s.takeOverride tag args, fun _ => rfl⟩
  | release _ tag args => cases h; exact ⟨fun s => s.takeRelease tag args, fun _ => rfl⟩
  | freeze _ tag args => cases h; exact ⟨fun s => s.takeFreeze tag args, fun _ => rfl⟩
  | resume _ tag args => cases h; exact ⟨fun s => s.takeResume tag args, fun _ => rfl⟩
  | linkStart _ tag n _ => cases h; exact ⟨fun s => s.takeLinkStart tag n, fun _ => rfl⟩
  | linkStop _ tag n _ => cases h; exact ⟨fun s => s.takeLinkStop tag n, fun _ => rfl⟩
  | linkReset _ tag n _ => cases h; exact ⟨fun s => s.takeLinkReset tag n, fun _ => rfl⟩
  | clear _ tag args => cases h; exact ⟨fun s => s.takeClear tag args, fun _ => rfl⟩
  | protect _ tag args => cases h; exact ⟨fun s => s.takeProtect tag args, fun _ => rfl⟩
  | lock _ tag args => cases h; exact ⟨fun s => s.takeLock tag args, fun _ => rfl⟩
  | resetArm _ tag args => cases h; exact ⟨fun s => s.takeResetArm tag args, fun _ => rfl⟩
  | reset _ tag args => cases h; exact ⟨fun s => s.takeReset tag args, fun _ => rfl⟩
  | unknownRequest _ tag code args => cases h; exact ⟨fun s => s.takeUnknown tag code args, fun _ => rfl⟩
  | shortRequestPayload _ tag => cases h; exact ⟨fun s => s.takeShort tag, fun _ => rfl⟩
  | linkBadAction _ tag n _ _ => cases h; exact ⟨fun s => s.takeLinkBadAction tag n, fun _ => rfl⟩
  | _ => cases h

theorem exec_frameReceived {bytes : List Byte} {f : Frame} (h : Frame.ofBytes bytes = some f) (l : LinkId) (s : State) :
    exec (.frameReceived l bytes) s = .next (s.frameArrives l f.seq fun u => u.acceptFrame l f) := by
  show execFrameReceived l bytes s = _
  unfold execFrameReceived State.receiveFrame
  rw [h]

theorem exec_frameReceived_failing {bytes : List Byte} (h : Frame.ofBytes bytes = none) (l : LinkId) (s : State) :
    exec (.frameReceived l bytes) s = .next ((s.symbolArrives l .data).frameFails l) := by
  show execFrameReceived l bytes s = _
  unfold execFrameReceived State.receiveFrame
  rw [h]

theorem State.symbolArrives_off {s : State} {l : LinkId} (h : (s.port l).state = .off) (y : LineSymbol) :
    s.symbolArrives l y = s := if_pos h

theorem State.symbolArrives_data {s : State} {l : LinkId} (h : (s.port l).state ≠ .off) :
    s.symbolArrives l .data = s.setPort l ((s.port l).hearing true false) := State.symbolArrives_eq h .data

theorem State.frameArrives_off {s : State} {l : LinkId} (h : (s.port l).state = .off) (seq : Byte)
    (work : State → State) : s.frameArrives l seq work = s := by
  unfold State.frameArrives
  rw [State.symbolArrives_off h]
  simp only [h]

/-- Out of RUNNING and STARTING a frame is one heard symbol (R124, R125). -/
theorem State.frameArrives_heard {s : State} {l : LinkId} (h : (s.port l).state = .halted ∨ (s.port l).state = .down)
    (seq : Byte) (work : State → State) :
    s.frameArrives l seq work = s.setPort l ((s.port l).hearing true false) := by
  have heard : ((s.setPort l ((s.port l).hearing true false)).port l).state = (s.port l).state := by
    rw [State.setPort_port_same]
    rfl
  unfold State.frameArrives
  rw [State.symbolArrives_data (by rcases h with h | h <;> simp [h])]
  rcases h with h | h <;> simp only [heard, h]

theorem State.frameArrives_running {s : State} {l : LinkId} (h : (s.port l).state = .running) (seq : Byte)
    (work : State → State) : s.frameArrives l seq work =
      work ((s.setPort l ((s.port l).hearing true false)).takeSequence l seq) := by
  have heard : ((s.setPort l ((s.port l).hearing true false)).port l).state = (s.port l).state := by
    rw [State.setPort_port_same]
    rfl
  unfold State.frameArrives
  rw [State.symbolArrives_data (by simp [h])]
  simp only [heard, h]

theorem State.frameArrives_starting {s : State} {l : LinkId} (h : (s.port l).state = .starting) (seq : Byte)
    (work : State → State) : s.frameArrives l seq work =
      work (((s.setPort l ((s.port l).hearing true false)).enterRunning l).takeSequence l seq) := by
  have heard : ((s.setPort l ((s.port l).hearing true false)).port l).state = (s.port l).state := by
    rw [State.setPort_port_same]
    rfl
  unfold State.frameArrives
  rw [State.symbolArrives_data (by simp [h])]
  simp only [heard, h]

/-- Settles O21. -/
theorem framesNotTaken : Obligations.FramesNotTaken := by
  intro s
  refine ⟨fun c seq hc => ?_, fun l bytes => ?_, fun l bytes f hf hs hu hr => ?_⟩
  · obtain ⟨work, hwork⟩ := exec_request hc
    rw [hwork]
    exact ⟨fun h => congrArg _ (State.frameArrives_off h _ _), fun h => congrArg _ (State.frameArrives_heard h _ _)⟩
  · cases hf : Frame.ofBytes bytes with
    | some f =>
      rw [exec_frameReceived hf]
      exact ⟨fun h => congrArg _ (State.frameArrives_off h _ _), fun h => congrArg _ (State.frameArrives_heard h _ _)⟩
    | none =>
      rw [exec_frameReceived_failing hf]
      have stands (u : State) (h : (u.port l).state ≠ .running) : u.frameFails l = u :=
        if_neg (mt (u.running_iff l).mp h)
      refine ⟨fun h => congrArg _ ?_, fun h => congrArg _ ?_⟩
      · rw [State.symbolArrives_off h, stands s (by simp [h])]
      · rw [State.symbolArrives_data (by rcases h with h | h <;> simp [h]), stands]
        rw [State.setPort_port_same]
        show (s.port l).state ≠ .running
        rcases h with h | h <;> simp [h]
  · rw [exec_frameReceived hf, s.frameArrives_inSequence l f.seq _ hs]
    congr 1
    have update : ¬ f.kind = kindUpdate := hu
    have request : ¬ (f.kind = kindRequest ∧ l = .d) := hr
    rw [State.acceptFrame, if_neg update, if_neg request, State.modLinkFlags_eq, State.setPort_setPort, State.setPort_port_same]
    rfl

/-! ### First frames and gapped frames -/

/-- A valid symbol tells nothing new to a RUNNING link that has just heard one (R125). -/
theorem Port.hearing_again {p : Port} (hr : p.state = .running) (hs : p.silence = 0) (hh : p.heard = true) :
    p.hearing true false = p := by
  obtain ⟨⟩ := p
  simp_all [Port.hearing]

/-- The link as a start-up by a frame leaves it (R122). -/
theorem State.enterRunning_heard (s : State) (l : LinkId) :
    (((s.setPort l ((s.port l).hearing true false)).enterRunning l).port l).silence = 0
      ∧ (((s.setPort l ((s.port l).hearing true false)).enterRunning l).port l).heard = true := by
  generalize hu : (s.setPort l ((s.port l).hearing true false)).setPort l
    ((s.setPort l ((s.port l).hearing true false)).port l).entered = u
  have entered : u.port l = ((s.port l).hearing true false).entered := by
    rw [← hu, State.setPort_port_same, State.setPort_port_same]
  have heard : (u.port l).silence = 0 ∧ (u.port l).heard = true := by
    rw [entered]
    exact ⟨rfl, Bool.or_true _⟩
  rw [State.enterRunning_eq, hu]
  split
  · exact ⟨(State.openNext_effect _ l).silence.trans heard.1, (State.openNext_effect _ l).heard.trans heard.2⟩
  · exact heard

theorem Port.gap_of_some {p : Port} {q seq : Byte} (h : p.receiveSeq = some q) :
    p.gap seq = decide (seq ≠ q + 1) := by
  simp [Port.gap, h]

/-- The state in which a gap on a link is noted: on Link D an open batch torn (R34, R129). -/
def State.tornFor (s : State) (l : LinkId) : State := if l = .d then s.tearBatch else s

theorem State.tornFor_setPort (s : State) (l k : LinkId) (p : Port) :
    (s.setPort k p).tornFor l = (s.tornFor l).setPort k p := by
  unfold State.tornFor
  split
  · exact s.tearBatch_setPort k p
  · rfl

theorem State.tornFor_port (s : State) (l k : LinkId) : (s.tornFor l).port k = s.port k := by
  unfold State.tornFor
  split
  · exact s.tearBatch_port k
  · rfl

theorem State.takeSequence_gap {s : State} {l : LinkId} {seq : Byte} (h : (s.port l).gap seq = true) :
    s.takeSequence l seq = (s.tornFor l).setPort l
      { s.port l with receiveSeq := some seq, flags := { (s.port l).flags with seqGap := true } } := by
  rw [← State.tornFor_setPort]
  unfold State.takeSequence State.tornFor
  simp only [State.modPort, h, Bool.true_and, decide_eq_true_eq, Bool.or_true]

theorem State.takeSequence_inOrder {s : State} {l : LinkId} {seq : Byte} (h : (s.port l).gap seq = false) :
    s.takeSequence l seq = s.setPort l { s.port l with receiveSeq := some seq } := by
  unfold State.takeSequence
  simp only [State.modPort, h, Bool.false_and, Bool.or_false]
  rfl

/-- Settles O22: both sides come to the same state before the frame's own work. -/
theorem firstFramesAndGappedFramesAreUsed : Obligations.FirstFramesAndGappedFramesAreUsed := by
  intro c l seq s hc
  obtain ⟨work, arrives⟩ : ∃ work : State → State, ∀ u, exec c u = .next (u.frameArrives l seq work) := by
    rcases hc with ⟨rfl, h⟩ | ⟨bytes, f, rfl, hf, rfl⟩
    · exact exec_request h
    · exact ⟨fun u => u.acceptFrame l f, exec_frameReceived hf l⟩
  refine ⟨fun h => ?_, fun q hr hq hgap => ?_⟩
  · obtain ⟨hs, hh⟩ := s.enterRunning_heard l
    have hrun := State.enterRunning_state (s.setPort l ((s.port l).hearing true false)) l
    rw [arrives, arrives, State.frameArrives_starting h, State.frameArrives_running hrun,
      Port.hearing_again hrun hs hh, State.setPort_self]
  · intro gapped
    let marked : Port := { s.port l with receiveSeq := some (seq - 1), flags := { (s.port l).flags with seqGap := true } }
    have torn : (if l = .d then gapped.tearBatch else gapped) = (s.tornFor l).setPort l marked :=
      s.tornFor_setPort l l marked
    have port : ((s.tornFor l).setPort l marked).port l = marked := State.setPort_port_same _ l marked
    have gap : ((s.setPort l ((s.port l).hearing true false)).port l).gap seq = true := by
      rw [State.setPort_port_same]
      exact (Port.gap_of_some (p := (s.port l).hearing true false) hq).trans (decide_eq_true hgap)
    have noGap : ((((s.tornFor l).setPort l marked).setPort l (marked.hearing true false)).port l).gap seq = false := by
      rw [State.setPort_port_same]
      exact (Port.gap_of_some (p := marked.hearing true false) (q := seq - 1) rfl).trans (by simp)
    rw [torn, arrives, arrives, State.frameArrives_running hr,
      State.frameArrives_running (s := (s.tornFor l).setPort l marked) (by rw [port]; exact hr), port,
      State.takeSequence_gap gap, State.takeSequence_inOrder noGap]
    simp only [State.tornFor_setPort, State.setPort_setPort, State.setPort_port_same]
    rfl

/-! ### Check failures -/

theorem endingSymbol_valid (cause : EarlyEnd) : symbolIsValid (endingSymbol cause) = decide (cause ≠ .invalid) := by
  cases cause <;> rfl

theorem endingSymbol_idleFill (cause : EarlyEnd) :
    decide (endingSymbol cause = .idleFill) = decide (cause = .idleFill) := by
  cases cause <;> rfl

/-- A frame that ends early is heard as a break of the fill and then as the symbol that ends it (R118, R122). -/
theorem exec_frameEndedEarly {s : State} {l : LinkId} (h : (s.port l).state ≠ .off) (cause : EarlyEnd) :
    exec (.frameEndedEarly l cause) s = .next ((s.setPort l (((s.port l).hearing false false).hearing
      (decide (cause ≠ .invalid)) (decide (cause = .idleFill)))).frameFails l) := by
  show Host.Outcome.next (((s.symbolArrives l .fillBreak).symbolArrives l (endingSymbol cause)).frameFails l) = _
  rw [State.symbolArrives_eq h, State.symbolArrives_eq (by rw [State.setPort_port_same]; exact h),
    State.setPort_setPort, State.setPort_port_same, endingSymbol_valid, endingSymbol_idleFill]
  rfl

/-- A failed check of a RUNNING link (R124, R128, R34). -/
theorem State.frameFails_running {s : State} {l : LinkId} (h : (s.port l).state = .running) : s.frameFails l =
    if l = .d then (s.modLinkFlags l fun f => { f with checkErr := true }).tearBatch
    else if (s.port l).settings.haltOnCheck then (s.modLinkFlags l fun f => { f with checkErr := true }).halt l
    else s.modLinkFlags l fun f => { f with checkErr := true } :=
  if_pos ((s.running_iff l).mpr h)

/-- A RUNNING board link is HALTED (R123, R124). -/
theorem State.halt_running {s : State} {l : LinkId} (h : (s.port l).state = .running) (hl : l ≠ .d) :
    s.halt l = (s.setPort l { (s.port l).stopped .halted with silence := 0 }).reevaluate := by
  rw [State.halt, State.leaveFor_running h, if_neg hl, State.reevaluate_modPort rfl rfl, State.modPort,
    State.setPort_setPort, State.setPort_port_same]

/-- A break and a valid data symbol are heard like the data symbol alone. -/
theorem Port.hearing_break_data (p : Port) : (p.hearing false false).hearing true false = p.hearing true false := by
  have state : (p.hearing false false).state = p.state := rfl
  by_cases h : p.state = .starting <;> simp [Port.hearing, h]

/-- Settles O23. -/
theorem checkFailures : Obligations.CheckFailures := by
  intro l cause s p flagged
  have port : (s.setPort l p).port l = p := s.setPort_port_same l p
  have flags : (s.setPort l p).modLinkFlags l (fun f => { f with checkErr := true }) =
      s.setPort l { p with flags := flagged } := by
    rw [State.modLinkFlags_eq, port, State.setPort_setPort]
  have fails (h : (s.port l).state = .running) : exec (.frameEndedEarly l cause) s = .next
      (if l = .d then (s.setPort l { p with flags := flagged }).tearBatch
        else if p.settings.haltOnCheck then (s.setPort l { p with flags := flagged }).halt l
        else s.setPort l { p with flags := flagged }) := by
    rw [exec_frameEndedEarly (by simp [h]), State.frameFails_running (by rw [State.setPort_port_same]; exact h)]
    exact congrArg _ (by rw [flags, port])
  refine ⟨fun h => ?_, fun h hr => ?_, fun h hl => ?_, fun h hl hh => ?_, fun h hl hh => ?_, fun bytes hb => ?_⟩
  · show Host.Outcome.next (((s.symbolArrives l .fillBreak).symbolArrives l (endingSymbol cause)).frameFails l) = _
    rw [State.symbolArrives_off h, State.symbolArrives_off h]
    exact congrArg _ (if_neg (by rw [State.running_iff, h]; simp))
  · rw [exec_frameEndedEarly h]
    exact congrArg _ (if_neg (by rw [State.running_iff, State.setPort_port_same]; exact hr))
  · rw [fails h, if_pos hl]
  · rw [fails h, if_neg hl, if_neg (by rw [show p.settings.haltOnCheck = false from hh]; simp)]
  · rw [fails h, if_neg hl, if_pos (show p.settings.haltOnCheck = true from hh),
      State.halt_running (by rw [State.setPort_port_same]; exact h) hl, State.setPort_setPort, State.setPort_port_same]
    rfl
  · rw [exec_frameReceived_failing hb]
    by_cases h : (s.port l).state = .off
    · show _ = Host.Outcome.next (((s.symbolArrives l .fillBreak).symbolArrives l .data).frameFails l)
      rw [State.symbolArrives_off h .fillBreak, State.symbolArrives_off h .data]
    · rw [exec_frameEndedEarly h, State.symbolArrives_data h, ← Port.hearing_break_data]
      rfl

end Sys2Proof.Machine

/-! PROOFS. UPDATE frames (chapter 2): the pairs of a payload, commits with their notice, the batch unit of Link D, the
peak registers. -/

namespace Sys2Proof.Machine

/-! ### The pairs of a payload -/

theorem byteAt_drop (bs : List Byte) (n i : Nat) : byteAt (bs.drop n) i = byteAt bs (n + i) := by
  simp [byteAt, List.getD_eq_getElem?_getD]

/-- The pair at a place of a payload (R22). -/
def pairAt (payload : List Byte) (i : Nat) : CueId × Word :=
  (cueOfByte (byteAt payload (3 * i)), wordAt payload (3 * i + 1))

/-- A payload that is a multiple of three is a run of pairs (R22, R133). -/
theorem pairsOf_eq {payload : List Byte} (h : payload.length % 3 = 0) :
    pairsOf payload = (List.range (payload.length / 3)).map (pairAt payload) := by
  induction payload using pairsOf.induct with
  | case1 c hi lo rest ih =>
    have hrest : rest.length % 3 = 0 := by simp only [List.length_cons] at h; omega
    have hlen : (c :: hi :: lo :: rest).length / 3 = rest.length / 3 + 1 := by simp only [List.length_cons]; omega
    rw [pairsOf, ih hrest, hlen, List.range_succ_eq_map, List.map_cons, List.map_map]
    refine congrArg₂ List.cons rfl (List.map_congr_left fun i _ => ?_)
    have shift (k : Nat) : byteAt (c :: hi :: lo :: rest) (k + 3) = byteAt rest k := rfl
    have head : cueOfByte (byteAt (c :: hi :: lo :: rest) (3 * i + 3)) = cueOfByte (byteAt rest (3 * i)) :=
      congrArg cueOfByte (shift (3 * i))
    have value : wordAt (c :: hi :: lo :: rest) (3 * i + 1 + 3) = wordAt rest (3 * i + 1) :=
      congrArg₂ (fun x y : Byte => x ++ y) (shift (3 * i + 1)) (shift (3 * i + 1 + 1))
    exact Prod.ext head value
  | case2 payload hshort =>
    match payload, hshort with
    | [], _ => rfl
    | [_], _ => simp at h
    | [_, _], _ => simp at h
    | a :: b :: c :: rest, hshort => exact absurd rfl (hshort a b c rest)

theorem pairsOf_pairs (payload : List Byte) (h : payload.length % 3 = 0) :
    (pairsOf payload).length = payload.length / 3
      ∧ ∀ i w, (pairsOf payload)[i]? = some w →
          w.1.val = (byteAt payload (3 * i)).toNat ∧ w.2 = wordAt payload (3 * i + 1) := by
  rw [pairsOf_eq h]
  refine ⟨by rw [List.length_map, List.length_range], fun i w hw => ?_⟩
  rw [List.getElem?_map] at hw
  cases hr : (List.range (payload.length / 3))[i]? with
  | none => rw [hr] at hw; cases hw
  | some j =>
    rw [hr] at hw
    obtain ⟨hi, rfl⟩ := List.getElem?_eq_some_iff.mp hr
    cases Option.some.inj hw
    rw [List.getElem_range]
    exact ⟨rfl, rfl⟩

/-! ### Owners -/

/-- An UPDATE frame names a cue that its link does not own (R23). -/
def State.mismatches (s : State) (l : LinkId) (payload : List Byte) : Bool := !(pairsOf payload).all (s.owns l)

theorem State.mismatches_iff (s : State) (l : LinkId) (payload : List Byte) :
    s.mismatches l payload = true ↔ ∃ w ∈ pairsOf payload, (s.cue w.1).config.owner ≠ some l := by
  simp [State.mismatches, State.owns]

/-- OWNER_MISMATCH after an UPDATE frame (R23). -/
def State.mismatchFlag (s : State) (l : LinkId) (payload : List Byte) : Bool :=
  (s.port l).flags.ownerMismatch || s.mismatches l payload

theorem State.mismatchFlag_iff (s : State) (l : LinkId) (payload : List Byte) : s.mismatchFlag l payload = true ↔
    (s.port l).flags.ownerMismatch = true ∨ ∃ w ∈ pairsOf payload, (s.cue w.1).config.owner ≠ some l := by
  rw [State.mismatchFlag, Bool.or_eq_true, State.mismatches_iff]

theorem State.flagOwners_eq (s : State) (l : LinkId) (payload : List Byte) : s.flagOwners l payload =
    s.setPort l { s.port l with flags := { (s.port l).flags with ownerMismatch := s.mismatchFlag l payload } } := by
  unfold State.flagOwners State.mismatchFlag State.mismatches
  cases h : (pairsOf payload).all (s.owns l) with
  | true =>
    rw [Bool.not_true, Bool.or_false]
    exact (s.setPort_self l).symm
  | false => simp [State.modLinkFlags_eq]

/-- A link that has taken an UPDATE frame in sequence, its owners checked (R23, R129). -/
def State.updateTaken (s : State) (l : LinkId) (f : Frame) : State :=
  s.setPort l { (s.port l).took f.seq with
    flags := { (s.port l).flags with ownerMismatch := s.mismatchFlag l f.payload } }

/-- An UPDATE frame in sequence is handed on to the commits of its link (R22 to R32). -/
theorem exec_update {l : LinkId} {bytes : List Byte} {f : Frame} {s : State} (hb : Frame.ofBytes bytes = some f)
    (hk : f.kind = 0x06) (hs : s.inSequence l f.seq) : exec (.frameReceived l bytes) s = .next
      (if l = .d then (s.updateTaken l f).updateLinkD f.opens f.closes f.stepTag (s.acceptedCues l f.payload)
        else (s.updateTaken l f).commit s.batch.currentTag (s.acceptedCues l f.payload)) := by
  have taken : (s.setPort l ((s.port l).took f.seq)).flagOwners l f.payload = s.updateTaken l f := by
    rw [State.flagOwners_eq, State.setPort_setPort, State.setPort_port_same]
    simp only [State.mismatchFlag, State.setPort_port_same]
    rfl
  have update : f.kind = kindUpdate := hk
  rw [exec_frameReceived hb, State.frameArrives_inSequence _ _ _ _ hs]
  rw [State.acceptFrame, if_pos update]
  unfold State.takeUpdate
  dsimp only
  rw [taken]
  rfl

/-! ### A commit and its notice -/

theorem mem_writes_iff (writes : List (CueId × Word)) (c : CueId) :
    c ∈ writes.map Prod.fst ↔ writtenTo writes c ≠ none := by
  simp [writtenTo, List.find?_eq_none]

/-- A commit is its entries written and then their notice (R39). -/
theorem State.commit_notice (s : State) (tag : Word) (writes : List (CueId × Word)) : s.commit tag writes =
    ({ s with cues := (s.commit tag writes).cues }).takeNotice (writes.map Prod.fst) := by
  cases h : writes.isEmpty with
  | true =>
    rw [List.isEmpty_iff] at h
    subst h
    exact (State.takeNotice_nil s).symm
  | false =>
    have made : s.commit tag writes = (s.writeCommit tag writes).takeNotice (writes.map Prod.fst) := if_neg (by simp [h])
    have cues : (s.commit tag writes).cues = (s.writeCommit tag writes).cues := by
      rw [made, (State.takeNotice_effect _ _).eq]
    rw [cues, ← State.writeCommit_eq]
    exact made

/-- `t` is `v` after an UPDATE frame's work on cues and batch: the batch unit, STEP_TORN and the entries as given, and
then the notice of the cues given (R39). -/
structure State.Updated (v t : State) (batch : BatchUnit) (torn : Bool) (entry : CueId → CueEntry)
    (cues : List CueId) : Prop where
  batch : t.batch = batch
  torn : t.flags.stepTorn = torn
  cue : ∀ c, t.cue c = entry c
  nodup : cues.Nodup
  notice : t = ({ v with
    cues := t.cues, batch := t.batch, flags := { v.flags with stepTorn := t.flags.stepTorn } }).takeNotice cues

/-- A commit on a state that differs from `v` in cues, batch and STEP_TORN alone. -/
theorem State.Updated.of_commit {v w : State} (hw : w = { v with
      cues := w.cues, batch := w.batch, flags := { v.flags with stepTorn := w.flags.stepTorn } })
    (tag : Word) {writes : List (CueId × Word)} (hn : (writes.map Prod.fst).Nodup) {entry : CueId → CueEntry}
    (he : ∀ c, entry c = match writtenTo writes c with
      | some x => (w.cue c).committed x tag
      | none => w.cue c) :
    v.Updated (w.commit tag writes) w.batch w.flags.stepTorn entry (writes.map Prod.fst) := by
  have effect := w.commit_effect tag writes
  have batch : (w.commit tag writes).batch = w.batch := effect.batch
  have torn : (w.commit tag writes).flags.stepTorn = w.flags.stepTorn := by rw [effect.eq]
  refine ⟨batch, torn, fun c => ?_, hn, ?_⟩
  · exact (State.commit_cue w tag writes c hn).trans (he c).symm
  · have notice := w.commit_notice tag writes
    rw [batch, torn]
    refine notice.trans (congrArg (fun u : State => u.takeNotice _) ?_)
    generalize (w.commit tag writes).cues = cs
    rw [hw]

/-- Work that commits no cue, on a state that differs from `v` in cues, batch and STEP_TORN alone. -/
theorem State.Updated.of_none {v w : State} (hw : w = { v with
      cues := w.cues, batch := w.batch, flags := { v.flags with stepTorn := w.flags.stepTorn } })
    {entry : CueId → CueEntry} (he : ∀ c, entry c = w.cue c) : v.Updated w w.batch w.flags.stepTorn entry [] := by
  refine ⟨rfl, rfl, fun c => (he c).symm, List.nodup_nil, ?_⟩
  rw [State.takeNotice_nil]
  exact hw

/-- Everything else that such work leaves. -/
theorem State.Updated.effect {v t : State} {batch : BatchUnit} {torn : Bool} {entry : CueId → CueEntry}
    {cues : List CueId} (h : v.Updated t batch torn entry cues) : ({ v with
      cues := t.cues, batch := t.batch, flags := { v.flags with stepTorn := t.flags.stepTorn } }).NoticeEffect t := by
  have effect := State.takeNotice_effect ({ v with
    cues := t.cues, batch := t.batch, flags := { v.flags with stepTorn := t.flags.stepTorn } }) cues
  rwa [← h.notice] at effect

/-! ### Board links -/

theorem State.commits_board {l : LinkId} (h : l ≠ .d) (s : State) (f : Frame) (c : CueId) :
    s.commits l f c = s.broughtBy l f.payload c := if_neg h

theorem State.acceptedCues_mem (s : State) (l : LinkId) (payload : List Byte) (c : CueId) :
    c ∈ (s.acceptedCues l payload).map Prod.fst ↔ s.broughtBy l payload c ≠ none := by
  rw [mem_writes_iff, State.writtenTo_acceptedCues]

theorem State.updateTaken_updated {l : LinkId} (s : State) (f : Frame) :
    (s.updateTaken l f).Updated ((s.updateTaken l f).commit s.batch.currentTag (s.acceptedCues l f.payload)) s.batch
      s.flags.stepTorn (fun c => match s.broughtBy l f.payload c with
        | some v => (s.cue c).committed v s.batch.currentTag
        | none => s.cue c) ((s.acceptedCues l f.payload).map Prod.fst) :=
  State.Updated.of_commit (w := s.updateTaken l f) rfl s.batch.currentTag (s.acceptedCues_nodup l f.payload) fun c => by
    rw [State.writtenTo_acceptedCues]
    rfl

/-- Settles O24. -/
theorem boardUpdateCommitsItsOwnCues : Obligations.BoardUpdateCommitsItsOwnCues := by
  refine ⟨pairsOf_pairs, fun l bytes f s hl hb hk hs => ?_⟩
  have done := s.updateTaken_updated (l := l) f
  have effect := done.effect
  generalize ht : (s.updateTaken l f).commit s.batch.currentTag (s.acceptedCues l f.payload) = t at done effect
  have taken : (s.updateTaken l f).port l = { (s.port l).took f.seq with
      flags := { (s.port l).flags with ownerMismatch := s.mismatchFlag l f.payload } } := State.setPort_port_same _ _ _
  have port : t.port l = { (s.updateTaken l f).port l with
      queue := (t.port l).queue
      flags := { ((s.updateTaken l f).port l).flags with eventDrop := (t.port l).flags.eventDrop } } := effect.port l
  refine ⟨t, (exec_update hb hk hs).trans (by rw [if_neg hl, ht]), done.cue, ?_, ?_, ?_, fun id => ?_,
    s.mismatchFlag l f.payload, _, s.mismatchFlag_iff l f.payload, done.nodup, fun c => ?_, ?_⟩
  · rw [port, taken]
    rfl
  · rw [port, taken]
    exact s.mismatchFlag_iff l f.payload
  · have eq := effect.eq
    have batch := done.batch
    have torn := done.torn
    generalize t.cues = cs, t.routes = rs, t.ports = ps, t.flags.clipped = cl, t.lastClipped = lc at eq ⊢
    rw [eq, batch, torn]
    rfl
  · exact ⟨effect.record id, effect.held id⟩
  · rw [State.acceptedCues_mem, State.commits_board hl]
  · have notice := done.notice
    rw [done.batch, done.torn] at notice
    exact notice

/-! ### Link D -/

/-- What the batch unit leaves on Link D, case by case of the OPEN and CLOSE bits and the batch state (R27 to R32): the
batch, STEP_TORN, the entries, and the cues of the notice. -/
structure State.LinkDUpdated (s : State) (f : Frame) (t : State) (batch : BatchUnit) (torn : Bool)
    (entry : CueId → CueEntry) : Prop where
  updated : ∃ cues, (s.updateTaken .d f).Updated t batch torn entry cues ∧ ∀ c, c ∈ cues ↔ s.commits .d f c ≠ none

section
variable (s : State) (f : Frame)

/-- A plain update (R27). -/
theorem State.linkD_plain (hopen : f.opens = false) (hb : s.batch.isOpen = false) : s.LinkDUpdated f
    ((s.updateTaken .d f).updateLinkD f.opens f.closes f.stepTag (s.acceptedCues .d f.payload)) s.batch s.flags.stepTorn
    fun c => match s.broughtBy .d f.payload c with
      | some v => (s.cue c).committed v s.batch.currentTag
      | none => s.cue c := by
  have work : (s.updateTaken .d f).updateLinkD f.opens f.closes f.stepTag (s.acceptedCues .d f.payload) =
      (s.updateTaken .d f).commit s.batch.currentTag (s.acceptedCues .d f.payload) := by
    have closed : ¬ (s.updateTaken .d f).batch.isOpen = true := by
      show ¬ s.batch.isOpen = true
      simp [hb]
    rw [hopen]
    cases f.closes <;> exact if_neg closed
  refine ⟨_, work ▸ s.updateTaken_updated f, fun c => ?_⟩
  rw [State.acceptedCues_mem, State.commits, if_pos rfl]
  have control : f.control.getLsbD 1 = false := hopen
  rw [control, hb]
  cases f.control.getLsbD 2 <;> rfl

theorem State.tearBatch_stepTorn : s.tearBatch.flags.stepTorn = (s.flags.stepTorn || s.batch.isOpen) := by
  unfold State.tearBatch
  cases h : s.batch.isOpen <;> simp [State.modFlags, State.abandonBatch, State.mapCues]

theorem State.tearBatch_currentTag : s.tearBatch.batch.currentTag = s.batch.currentTag := by
  rw [State.tearBatch_eq]

/-- Work that only makes values pending, after a tear or not (R28, R29). -/
theorem State.linkD_pending {w : State} {batch : BatchUnit} {torn : Bool} (hw : w = { s.updateTaken .d f with
      cues := w.cues, batch := w.batch
      flags := { (s.updateTaken .d f).flags with stepTorn := w.flags.stepTorn } })
    (hbatch : w.batch = batch) (htorn : w.flags.stepTorn = torn)
    (commits : ∀ c, s.commits .d f c = none) {entry : CueId → CueEntry}
    (he : ∀ c, entry c = match s.broughtBy .d f.payload c with
      | some v => { w.cue c with pending := some v }
      | none => w.cue c) :
    s.LinkDUpdated f (w.makePending (s.acceptedCues .d f.payload)) batch torn entry := by
  have made := State.makePending_eq (s.acceptedCues .d f.payload) w
  have hb : (w.makePending (s.acceptedCues .d f.payload)).batch = batch := by rw [made, hbatch]
  have ht : (w.makePending (s.acceptedCues .d f.payload)).flags.stepTorn = torn := by rw [made, htorn]
  refine ⟨[], hb ▸ ht ▸ .of_none ?_ fun c => ?_, fun c => by simp [commits c]⟩
  · generalize (w.makePending (s.acceptedCues .d f.payload)).cues = cs at made
    rw [made, hw]
  · have cue := State.makePending_cue _ c (s.acceptedCues_nodup .d f.payload) w
    rw [State.writtenTo_acceptedCues] at cue
    exact (he c).trans cue.symm

/-- Work that commits, after a tear or not (R27, R30, R31). -/
theorem State.linkD_commit {w : State} {batch : BatchUnit} {torn : Bool} (hw : w = { s.updateTaken .d f with
      cues := w.cues, batch := w.batch
      flags := { (s.updateTaken .d f).flags with stepTorn := w.flags.stepTorn } })
    (hbatch : w.batch = batch) (htorn : w.flags.stepTorn = torn) (tag : Word) {writes : List (CueId × Word)}
    (hn : (writes.map Prod.fst).Nodup) (commits : ∀ c, s.commits .d f c = writtenTo writes c) {entry : CueId → CueEntry}
    (he : ∀ c, entry c = match writtenTo writes c with
      | some x => (w.cue c).committed x tag
      | none => w.cue c) :
    s.LinkDUpdated f (w.commit tag writes) batch torn entry := by
  subst hbatch htorn
  exact ⟨_, .of_commit hw tag hn he, fun c => by rw [mem_writes_iff, commits]⟩

/-- The state a tear leaves after an UPDATE frame is taken, its batch unit then set. -/
def State.updateTorn (b : BatchUnit) : State := { (s.updateTaken .d f).tearBatch with batch := b }

theorem State.updateTorn_rest (b : BatchUnit) : s.updateTorn f b = { s.updateTaken .d f with
    cues := (s.updateTorn f b).cues, batch := (s.updateTorn f b).batch
    flags := { (s.updateTaken .d f).flags with stepTorn := (s.updateTorn f b).flags.stepTorn } } := by
  have h := (s.updateTaken .d f).tearBatch_eq
  unfold State.updateTorn
  generalize (s.updateTaken .d f).tearBatch = w at h ⊢
  rw [h]

theorem State.updateTorn_stepTorn (b : BatchUnit) :
    (s.updateTorn f b).flags.stepTorn = (s.flags.stepTorn || s.batch.isOpen) :=
  (s.updateTaken .d f).tearBatch_stepTorn

theorem State.updateTorn_cue (b : BatchUnit) (c : CueId) :
    (s.updateTorn f b).cue c = if s.batch.isOpen then { s.cue c with pending := none } else s.cue c :=
  (s.updateTaken .d f).tearBatch_cue c

/-- An opening (R28). -/
theorem State.linkD_opening (hopen : f.opens = true) (hclose : f.closes = false) : s.LinkDUpdated f
    ((s.updateTaken .d f).updateLinkD f.opens f.closes f.stepTag (s.acceptedCues .d f.payload))
    { isOpen := true, openTag := f.stepTag, timer := some 0, currentTag := s.batch.currentTag }
    (s.flags.stepTorn || s.batch.isOpen)
    fun c => match s.broughtBy .d f.payload c with
      | some v => { s.cue c with pending := some v }
      | none => if s.batch.isOpen then { s.cue c with pending := none } else s.cue c := by
  have commits (c : CueId) : s.commits .d f c = none := by
    have opens : f.control.getLsbD 1 = true := hopen
    have closes : f.control.getLsbD 2 = false := hclose
    rw [State.commits, if_pos rfl, opens, closes]
  have tag : (s.updateTaken .d f).tearBatch.batch.currentTag = s.batch.currentTag := State.tearBatch_currentTag _
  have work : (s.updateTaken .d f).updateLinkD true false f.stepTag (s.acceptedCues .d f.payload) =
      (s.updateTorn f { isOpen := true, openTag := f.stepTag, timer := some 0, currentTag := s.batch.currentTag }).makePending
        (s.acceptedCues .d f.payload) := by
    rw [← tag]
    rfl
  rw [hopen, hclose, work]
  refine s.linkD_pending f (s.updateTorn_rest f _) rfl (s.updateTorn_stepTorn f _) commits fun c => ?_
  rw [State.updateTorn_cue]
  cases s.broughtBy .d f.payload c <;> cases s.batch.isOpen <;> rfl

/-- A continuation of the open batch (R29). -/
theorem State.linkD_continuation (hopen : f.opens = false) (hclose : f.closes = false) (hb : s.batch.isOpen = true) :
    s.LinkDUpdated f
      ((s.updateTaken .d f).updateLinkD f.opens f.closes f.stepTag (s.acceptedCues .d f.payload))
      s.batch s.flags.stepTorn
      fun c => match s.broughtBy .d f.payload c with
        | some v => { s.cue c with pending := some v }
        | none => s.cue c := by
  have commits (c : CueId) : s.commits .d f c = none := by
    have opens : f.control.getLsbD 1 = false := hopen
    have closes : f.control.getLsbD 2 = false := hclose
    rw [State.commits, if_pos rfl, opens, closes, hb]
  have work : (s.updateTaken .d f).updateLinkD false false f.stepTag (s.acceptedCues .d f.payload) =
      (s.updateTaken .d f).makePending (s.acceptedCues .d f.payload) := if_pos hb
  rw [hopen, hclose, work]
  exact s.linkD_pending f rfl rfl rfl commits fun c => rfl

/-- A closing of the open batch (R30). -/
theorem State.linkD_closing (hopen : f.opens = false) (hclose : f.closes = true) (hb : s.batch.isOpen = true) :
    s.LinkDUpdated f
      ((s.updateTaken .d f).updateLinkD f.opens f.closes f.stepTag (s.acceptedCues .d f.payload))
      { isOpen := false, openTag := s.batch.openTag, timer := none, currentTag := s.batch.openTag } s.flags.stepTorn
      fun c => match (s.broughtBy .d f.payload c).or (s.cue c).pending with
        | some v => (s.cue c).committed v s.batch.openTag
        | none => s.cue c := by
  have made := State.makePending_eq (s.acceptedCues .d f.payload) (s.updateTaken .d f)
  have entry (c : CueId) : ((s.updateTaken .d f).makePending (s.acceptedCues .d f.payload)).cue c =
      match s.broughtBy .d f.payload c with
      | some v => { s.cue c with pending := some v }
      | none => s.cue c := by
    rw [State.makePending_cue _ _ (s.acceptedCues_nodup _ _), State.writtenTo_acceptedCues]
    rfl
  have work : (s.updateTaken .d f).updateLinkD false true f.stepTag (s.acceptedCues .d f.payload) =
      ((s.updateTaken .d f).makePending (s.acceptedCues .d f.payload)).closeBatch := if_pos hb
  rw [hopen, hclose, work]
  generalize (s.updateTaken .d f).makePending (s.acceptedCues .d f.payload) = w at made entry
  have batch : w.batch = s.batch := by rw [made]; rfl
  have torn : w.flags.stepTorn = s.flags.stepTorn := by rw [made]; rfl
  have pending (c : CueId) : (w.cue c).pending = (s.broughtBy .d f.payload c).or (s.cue c).pending := by
    rw [entry]
    cases s.broughtBy .d f.payload c <;> rfl
  unfold State.closeBatch
  rw [batch]
  refine s.linkD_commit f (w := { w with batch := { s.batch with
    isOpen := false, timer := none, currentTag := s.batch.openTag } }) (by rw [made]) rfl torn s.batch.openTag w.pendingWrites_nodup (fun c => ?_) fun c => ?_
  · have opens : f.control.getLsbD 1 = false := hopen
    have closes : f.control.getLsbD 2 = true := hclose
    rw [State.commits, if_pos rfl, opens, closes, hb, State.writtenTo_pendingWrites, pending]
  · rw [State.writtenTo_pendingWrites, pending]
    show _ = match (s.broughtBy .d f.payload c).or (s.cue c).pending with
      | some x => (w.cue c).committed x s.batch.openTag
      | none => w.cue c
    rw [entry]
    cases s.broughtBy .d f.payload c <;> rfl

/-- A self-contained batch (R31). -/
theorem State.linkD_selfContained (hopen : f.opens = true) (hclose : f.closes = true) : s.LinkDUpdated f
    ((s.updateTaken .d f).updateLinkD f.opens f.closes f.stepTag (s.acceptedCues .d f.payload))
    { isOpen := false, openTag := f.stepTag, timer := none, currentTag := f.stepTag }
    (s.flags.stepTorn || s.batch.isOpen)
    fun c => match s.broughtBy .d f.payload c with
      | some v => (s.cue c).committed v f.stepTag
      | none => if s.batch.isOpen then { s.cue c with pending := none } else s.cue c := by
  have commits (c : CueId) : s.commits .d f c = writtenTo (s.acceptedCues .d f.payload) c := by
    have opens : f.control.getLsbD 1 = true := hopen
    have closes : f.control.getLsbD 2 = true := hclose
    rw [State.commits, if_pos rfl, opens, closes, State.writtenTo_acceptedCues]
  rw [hopen, hclose]
  refine s.linkD_commit f (s.updateTorn_rest f _) rfl (s.updateTorn_stepTorn f _) f.stepTag
    (s.acceptedCues_nodup _ _) commits fun c => ?_
  rw [State.updateTorn_cue, State.writtenTo_acceptedCues]
  cases s.broughtBy .d f.payload c <;> cases s.batch.isOpen <;> rfl

/-- One of the five cases takes every UPDATE frame in sequence on Link D (R27 to R31). -/
theorem State.linkD_updated : ∃ batch torn entry, s.LinkDUpdated f
    ((s.updateTaken .d f).updateLinkD f.opens f.closes f.stepTag (s.acceptedCues .d f.payload)) batch torn entry := by
  cases hopen : f.opens with
  | true =>
    cases hclose : f.closes with
    | true => exact ⟨_, _, _, hclose ▸ hopen ▸ s.linkD_selfContained f hopen hclose⟩
    | false => exact ⟨_, _, _, hclose ▸ hopen ▸ s.linkD_opening f hopen hclose⟩
  | false =>
    cases hb : s.batch.isOpen with
    | false => exact ⟨_, _, _, hopen ▸ s.linkD_plain f hopen hb⟩
    | true =>
      cases hclose : f.closes with
      | true => exact ⟨_, _, _, hclose ▸ hopen ▸ s.linkD_closing f hopen hclose hb⟩
      | false => exact ⟨_, _, _, hclose ▸ hopen ▸ s.linkD_continuation f hopen hclose hb⟩

end

theorem State.LinkDUpdated.result {s : State} {f : Frame} {t : State} {batch : BatchUnit} {torn : Bool}
    {entry : CueId → CueEntry} (h : s.LinkDUpdated f t batch torn entry) :
    t.batch = batch ∧ t.flags.stepTorn = torn ∧ ∀ c, t.cue c = entry c := by
  obtain ⟨_, done, _⟩ := h.updated
  exact ⟨done.batch, done.torn, done.cue⟩

/-- Settles O25: one lemma per case of the batch unit. -/
theorem linkDUpdateActsOnTheBatch : Obligations.LinkDUpdateActsOnTheBatch := by
  intro bytes f s hb hk hs
  refine ⟨_, (exec_update hb hk hs).trans (by rw [if_pos rfl]), fun ho hc => (s.linkD_plain f ho hc).result,
    fun ho hc => (s.linkD_opening f ho hc).result, fun ho hc hb => (s.linkD_continuation f ho hc hb).result,
    fun ho hc hb => (s.linkD_closing f ho hc hb).result, fun ho hc => (s.linkD_selfContained f ho hc).result, ?_⟩
  obtain ⟨_, _, _, cues, done, covers⟩ := s.linkD_updated f
  generalize (s.updateTaken .d f).updateLinkD f.opens f.closes f.stepTag (s.acceptedCues .d f.payload) = t at done
  refine ⟨?_, s.mismatchFlag .d f.payload, cues, s.mismatchFlag_iff .d f.payload, done.nodup, covers, done.notice⟩
  have eq := done.effect.eq
  generalize t.cues = cs, t.batch = b, t.routes = rs, t.ports = ps, t.flags.clipped = cl, t.flags.stepTorn = st,
    t.lastClipped = lc at eq ⊢
  exact eq

/-! ### Peak registers -/

/-- An UPDATE frame ends in the notice of the cues it commits, on every link (R39). -/
theorem exec_update_notice {l : LinkId} {bytes : List Byte} {f : Frame} {s t : State}
    (hb : Frame.ofBytes bytes = some f) (hk : f.kind = 0x06) (hs : s.inSequence l f.seq)
    (ht : exec (.frameReceived l bytes) s = .next t) : ∃ (u : State) (cues : List CueId),
      u.cues = t.cues ∧ u.routes = s.routes ∧ (∀ c, c ∈ cues ↔ s.commits l f c ≠ none) ∧ t = u.takeNotice cues := by
  by_cases hl : l = .d
  · subst hl
    obtain ⟨t', done, _, _, _, _, _, _, mismatch, cues, _, _, covers, notice⟩ := linkDUpdateActsOnTheBatch bytes f s hb hk hs
    cases ht.symm.trans done
    refine ⟨_, cues, ?_, ?_, covers, notice⟩ <;> rfl
  · obtain ⟨t', done, _, _, _, _, _, mismatch, cues, _, _, covers, notice⟩ :=
      boardUpdateCommitsItsOwnCues.2 l bytes f s hl hb hk hs
    cases ht.symm.trans done
    refine ⟨_, cues, ?_, ?_, covers, notice⟩ <;> rfl

/-- Settles O26: the notice of a commit brings the peak registers up to date and leaves every other FIELD route. -/
theorem peakRegistersFollowCommits : Obligations.PeakRegistersFollowCommits := by
  intro l bytes f s t id hb hk hs ht hfield a
  obtain ⟨u, cues, hcues, hroutes, covers, rfl⟩ := exec_update_notice hb hk hs ht
  have route : u.route id = s.route id := congrArg (fun rs => ({ s with routes := rs } : State).route id) hroutes
  have cue : u.cue a = (u.takeNotice cues).cue a := congrArg (fun cs => ({ s with cues := cs } : State).cue a) hcues
  rw [State.takeNotice_field (route ▸ hfield), State.peakUpdated_eq, route, show cueOfByte _ = a from rfl, ← cue]
  exact ⟨fun hpeak hcommit => if_pos ⟨hfield, hpeak, (covers a).mpr hcommit⟩,
    fun h => if_neg fun ⟨_, hpeak, hmem⟩ => h.elim (· hpeak) ((covers a).mp hmem)⟩

end Sys2Proof.Machine

/-! PROOFS. Management requests (chapter 8): the common steps of R137, and the requests whose work is one update. -/

namespace Sys2Proof.Machine

/-! ### The common steps -/

/-- The part when a request's own work begins: its frame taken, the reset arm acted on, the partial-record buffer emptied
unless the request keeps it (R137, R142, R151). -/
def State.requested (s : State) (seq : Byte) (t : RequestTraits) : State :=
  { s with
    ports := { s.ports with d := s.ports.d.took seq }
    management := { s.management with
      partialRecord := if t.keepsPartial then s.management.partialRecord else [], resetArm := t.setsResetArm }
    flags := if t.keepsPartial then s.flags else s.flags.discarding s.management }

/-- The room check passed, the reset arm acted on and the buffer emptied or kept (R137, R138). -/
theorem State.requested_eq (s : State) (seq : Byte) (t : RequestTraits) : s.requested seq t =
    if t.keepsPartial then (s.tookFrame seq).actOnResetArm t else ((s.tookFrame seq).actOnResetArm t).discardPartial := by
  obtain ⟨guarded, keeps, sets, reports⟩ := t
  cases keeps with
  | true => rfl
  | false => exact (State.discardPartial_eq ((s.tookFrame seq).actOnResetArm ⟨guarded, false, sets, reports⟩)).symm

/-- A request that finds room, and that its latch lets pass, goes to its own work (R137). -/
theorem State.takeRequest_ready {s : State} {seq : Byte} (h : s.readyFor seq) {t : RequestTraits}
    (hg : t.guarded = true → s.management.armLatch = true ∧ s.management.fill = none) (tag code : Byte)
    (work : State → State → State) :
    (s.frameArrives .d seq fun u => u.takeRequest t tag code (work u)) = work (s.tookFrame seq) (s.requested seq t) := by
  have hroom : ¬ 16 ≤ ((s.tookFrame seq).actOnResetArm t).level .d := Nat.not_le.mpr h.2
  have latch : (s.requested seq t).management.armLatch = s.management.armLatch := rfl
  have fill : (s.requested seq t).busy = s.management.fill.isSome := rfl
  rw [State.frameArrives_ready _ _ _ h.1]
  refine (if_neg hroom).trans ?_
  rw [← State.requested_eq, latch, fill]
  cases hgu : t.guarded with
  | false => rfl
  | true =>
    obtain ⟨hl, hf⟩ := hg hgu
    rw [hl, hf]
    rfl

/-- The reply that a request's work offers, with the management unit that the work leaves (R74, R139). -/
theorem State.requested_reply {s : State} {seq : Byte} (h : s.readyFor seq) {t : RequestTraits} (hk : t.keepsPartial = false)
    (m : Management) (tag code : Byte) (r : ResultCode) (n : Nat) (data : List Byte) :
    ({ s.requested seq t with management := m }).offerReply tag code r n data =
      { s.afterRequest seq { tag := tag, code := code, result := r.code, count := BitVec.ofNat 8 n, data := data
                             eligible := s.now } with management := m } := by
  obtain ⟨guarded, keeps, sets, reports⟩ := t
  subst hk
  exact State.offerReply_joins _ _ _ _ _ _ h.1.1 h.2

section
variable {s : State} {seq : Byte} (h : s.readyFor seq)
include h

/-- A request row that Link D takes, that finds room and that its latch lets pass (R137). -/
theorem exec_ready {c : Instr} {t : RequestTraits} {tag code : Byte} {work : State → State → State}
    (hc : exec c s = .next (s.frameArrives .d seq fun u => u.takeRequest t tag code (work u)))
    (hg : t.guarded = true → s.management.armLatch = true ∧ s.management.fill = none) {u : State}
    (hu : work (s.tookFrame seq) (s.requested seq t) = u) : exec c s = .next u := by
  rw [hc, State.takeRequest_ready h hg, hu]

/-- The same for a request that no latch guards. -/
theorem exec_unguarded {c : Instr} {t : RequestTraits} {tag code : Byte} {work : State → State → State}
    (hc : exec c s = .next (s.frameArrives .d seq fun u => u.takeRequest t tag code (work u)))
    (hg : t.guarded = false) {u : State} (hu : work (s.tookFrame seq) (s.requested seq t) = u) :
    exec c s = .next u :=
  exec_ready h hc (fun h' => Bool.noConfusion (hg.symm.trans h')) hu

/-- A request that answers, with the cursor report or not, and leaves the management unit as given (R139). -/
theorem State.requested_answer {t : RequestTraits} (hk : t.keepsPartial = false) (m : Management) (tag code : Byte)
    (r : ResultCode) : ({ s.requested seq t with management := m }).answer tag code r =
      { s.afterRequest seq (plainReply tag code r.code s.now) with management := m } :=
  State.requested_reply h hk m tag code r 0 []

/-- A request without arms or buffer of its own that only answers (R139). -/
theorem State.plainRequest_answer (tag code : Byte) (r : ResultCode) :
    (s.requested seq plainRequest).answer tag code r = s.afterRequest seq (plainReply tag code r.code s.now) :=
  State.requested_reply h rfl s.management.cleared tag code r 0 []

end

/-- Settles O32. -/
theorem latchRequestsSetTheirLatch : Obligations.LatchRequestsSetTheirLatch := by
  intro seq tag args s h
  exact ⟨exec_unguarded h rfl rfl (State.offerReply_joins _ tag 0x01 .ok 0 [] (by exact h.1.1) (by exact h.2)),
    exec_unguarded h rfl rfl (State.requested_answer h rfl _ tag 0x02 .ok),
    exec_unguarded h rfl rfl (State.requested_answer h rfl _ tag 0x10 .ok)⟩

/-! ### Requests without work -/

theorem LinkId.ofNumber_eq_none {n : Nat} (h : 3 < n) : LinkId.ofNumber n = none := by
  match n, h with
  | _ + 4, _ => rfl

theorem LinkId.ofNumber_number (l : LinkId) : LinkId.ofNumber l.number = some l := by cases l <;> rfl

theorem LinkId.exists_number {n : Nat} (h : n ≤ 3) : ∃ l : LinkId, n = l.number := by
  match n, h with
  | 0, _ => exact ⟨.d, rfl⟩
  | 1, _ => exact ⟨.v, rfl⟩
  | 2, _ => exact ⟨.a, rfl⟩
  | 3, _ => exact ⟨.c, rfl⟩

section
variable {s : State} {seq : Byte} (h : s.readyFor seq) {c : Instr} {tag n : Byte}
  {work : State → LinkId → ResultCode × State}
  (hc : exec c s = .next (s.frameArrives .d seq fun u => u.onNamedLink tag n work))
include h hc

/-- A LINK request whose number names no link (R139). -/
theorem exec_link_unnamed (hn : 3 < n.toNat) : exec c s = .next (s.afterRequest seq (plainReply tag 0x0C 5 s.now)) := by
  refine exec_unguarded h hc rfl ?_
  rw [LinkId.ofNumber_eq_none hn]
  exact State.plainRequest_answer h tag 0x0C .badIndex

/-- A LINK request on the link it names (R139). -/
theorem exec_link_named {l : LinkId} (hn : n.toNat = l.number) {r : ResultCode} {u t : State}
    (hw : work (s.requested seq plainRequest) l = (r, u)) (ht : u.answer tag 0x0C r = t) : exec c s = .next t := by
  refine exec_unguarded h hc rfl ?_
  rw [hn, LinkId.ofNumber_number]
  simp only [hw]
  exact ht

end

/-- Settles O33. -/
theorem requestsWithoutWorkAreRefused : Obligations.RequestsWithoutWorkAreRefused := by
  intro seq tag code n action args extra s h
  refine ⟨fun _ => ?_, ?_, ?_, fun _ hn => exec_link_unnamed h rfl hn, fun _ hn => ?_⟩
  · exact exec_unguarded h rfl rfl (State.plainRequest_answer h tag code .unknownRequest)
  · exact exec_unguarded h rfl rfl (State.plainRequest_answer h tag 0x00 .badValue)
  · exact exec_unguarded h rfl rfl (State.plainRequest_answer h 0 0x00 .badValue)
  · obtain ⟨l, hl⟩ := LinkId.exists_number hn
    exact exec_link_named h rfl hl rfl (State.plainRequest_answer h tag 0x0C .badValue)

/-! ### OVERRIDE and RELEASE -/

/-- Settles O40. -/
theorem overrideAndReleaseTouchTheOverride : Obligations.OverrideAndReleaseTouchTheOverride := by
  intro seq tag args s h c
  have set (e : CueEntry) (code : Byte) : ((s.requested seq plainRequest).setCue c e).answer tag code .ok =
      (s.afterRequest seq (plainReply tag code 0 s.now)).setCue c e :=
    State.offerReply_joins _ tag code .ok 0 [] (by exact h.1.1) (by exact h.2)
  refine ⟨fun hlen => exec_unguarded h rfl rfl ?_, fun hlen => exec_unguarded h rfl rfl ?_,
    fun hlen => exec_unguarded h rfl rfl ?_, fun hlen => exec_unguarded h rfl rfl ?_⟩
  · exact (if_neg (Nat.not_lt.mpr hlen)).trans (set _ 0x08)
  · exact (if_pos hlen).trans (State.plainRequest_answer h tag 0x08 .badValue)
  · exact (if_neg (Nat.not_lt.mpr hlen)).trans (set _ 0x09)
  · exact (if_pos (by rw [hlen]; decide)).trans (State.plainRequest_answer h tag 0x09 .badValue)

/-! ### PROTECT, LOCK and RESET -/

theorem Management.protects_iff (m : Management) (i : Nat) : m.protects i = true ↔
    (m.side = .low ∧ i < m.boundary) ∨ (m.side = .high ∧ m.boundary ≤ i) := by
  unfold Management.protects
  cases m.side <;> simp

/-- Settles O45. -/
theorem protectAndLock : Obligations.ProtectAndLock := by
  refine ⟨Management.protects_iff, fun seq tag args s h hl hf => ?_⟩
  intro m answered boundary
  have dropped : (s.requested seq guardedRequest).dropLatch guardedRequest =
      { s.requested seq guardedRequest with management := m } := rfl
  have refused (code : Byte) (r : ResultCode) :
      ({ s.requested seq guardedRequest with management := m }).answer tag code r = answered code r.code m :=
    State.requested_answer h rfl m tag code r
  have protect {r : ResultCode} {m' : Management}
      (hr : ({ s.requested seq guardedRequest with management := m }).protectRange args =
        (r, { s.requested seq guardedRequest with management := m' })) :
      exec (.protect seq tag args) s = .next (answered 0x0E r.code m') := by
    refine exec_ready h rfl (fun _ => ⟨hl, hf⟩) ?_
    rw [dropped, hr]
    exact State.requested_answer h rfl m' tag 0x0E r
  have lock : m.limitLock = s.management.limitLock := rfl
  refine ⟨fun hlen => protect (r := .badValue) (if_pos hlen), fun hlen hlock => protect (r := .locked) ?_,
    fun hlen hlock hbad => protect (r := .badValue) ?_, fun hlen hlock hb hside => protect (r := .ok) ?_,
    fun hlock => exec_ready h rfl (fun _ => ⟨hl, hf⟩) ?_, fun hlock => exec_ready h rfl (fun _ => ⟨hl, hf⟩) ?_⟩
  · exact (if_neg (Nat.not_lt.mpr hlen)).trans (if_pos hlock)
  · refine (if_neg (Nat.not_lt.mpr hlen)).trans ((if_neg (by simp [lock, hlock])).trans (if_pos ?_))
    simpa using hbad
  · refine (if_neg (Nat.not_lt.mpr hlen)).trans ((if_neg (by simp [lock, hlock])).trans ((if_neg ?_).trans ?_))
    · simpa using ⟨hb, hside⟩
    · have side : (byteAt args 2 = 0) ↔ (byteAt args 2).toNat = 0 := by rw [← BitVec.toNat_inj]; rfl
      simp only [side]
      rfl
  · exact (if_pos hlock).trans (refused 0x0F .locked)
  · refine (if_neg (by simp [dropped, lock, hlock])).trans ?_
    exact State.requested_answer h rfl { m with limitLock := true } tag 0x0F .ok

/-- RESET's own work, by the reset arm at the arrival (R151). -/
def State.resetWork (tag : Byte) (before s : State) : State :=
  if !before.management.resetArm then s.answer tag 0x11 .notArmed
  else if s.management.limitLock then s.answer tag 0x11 .locked
  else s.partReset

/-- Settles O46. -/
theorem resetIsAPartReset : Obligations.ResetIsAPartReset := by
  intro seq tag args s h
  have reset {u : State} (hu : State.resetWork tag (s.tookFrame seq) (s.requested seq plainRequest) = u) :
      exec (.reset seq tag args) s = .next u :=
    exec_unguarded (t := plainRequest) (tag := tag) (code := 0x11) (work := State.resetWork tag) h rfl rfl hu
  have armed : (s.tookFrame seq).management.resetArm = s.management.resetArm := rfl
  have lock : (s.requested seq plainRequest).management.limitLock = s.management.limitLock := rfl
  refine ⟨fun harm => reset ?_, fun harm hlock => reset ?_, fun harm hlock =>
    ⟨_, reset rfl, ?_⟩⟩
  · exact (if_pos (congrArg not harm)).trans (State.plainRequest_answer h tag 0x11 .notArmed)
  · exact (if_neg (by simp [armed, harm])).trans ((if_pos hlock).trans (State.plainRequest_answer h tag 0x11 .locked))
  · have done : State.resetWork tag (s.tookFrame seq) (s.requested seq plainRequest) =
        (s.requested seq plainRequest).partReset := (if_neg (by simp [armed, harm])).trans (if_neg (by simp [lock, hlock]))
    rw [done]
    exact ⟨State.partReset_atResetValues _, rfl, rfl, rfl, rfl, rfl⟩

/-! ### Requests that are lost or refused by the common steps -/

/-- The traits of a request row (R137). -/
def requestTraits : Instr → RequestTraits
  | .arm _ _ _ => { plainRequest with keepsPartial := true }
  | .resetArm _ _ _ => { plainRequest with setsResetArm := true }
  | .cursor _ _ _ => cursorRequest
  | .put _ _ _ => putRequest
  | .fill _ _ _ | .protect _ _ _ | .lock _ _ _ => guardedRequest
  | _ => plainRequest

theorem State.onNamedLink_takeRequest (tag n : Byte) (work : State → LinkId → ResultCode × State) :
    ∃ w, ∀ s : State, s.onNamedLink tag n work = s.takeRequest plainRequest tag 0x0C w := ⟨_, fun _ => rfl⟩

/-- A request row goes through the common steps with its traits (R137). -/
theorem exec_takeRequest {c : Instr} {seq : Byte} (h : requestSeq c = some seq) :
    ∃ (tag code : Byte) (work : State → State → State), ∀ s,
      exec c s = .next (s.frameArrives .d seq fun u => u.takeRequest (requestTraits c) tag code (work u)) := by
  cases c with
  | status _ tag _ =>
    cases h
    exact ⟨tag, 0x03, fun u v => v.offerReply tag 0x03 .ok 1 (v.statusRecord u.management.resetArm), fun _ => rfl⟩
  | reset _ tag _ =>
    cases h
    exact ⟨tag, 0x11, State.resetWork tag, fun _ => rfl⟩
  | arm _ _ _ => cases h; exact ⟨_, _, _, fun _ => rfl⟩
  | disarm _ _ _ => cases h; exact ⟨_, _, _, fun _ => rfl⟩
  | cursor _ _ _ => cases h; exact ⟨_, _, _, fun _ => rfl⟩
  | put _ _ _ => cases h; exact ⟨_, _, _, fun _ => rfl⟩
  | get _ _ _ => cases h; exact ⟨_, _, _, fun _ => rfl⟩
  | fill _ _ _ => cases h; exact ⟨_, _, _, fun _ => rfl⟩
  | override _ _ _ => cases h; exact ⟨_, _, _, fun _ => rfl⟩
  | release _ _ _ => cases h; exact ⟨_, _, _, fun _ => rfl⟩
  | freeze _ _ _ => cases h; exact ⟨_, _, _, fun _ => rfl⟩
  | resume _ _ _ => cases h; exact ⟨_, _, _, fun _ => rfl⟩
  | linkStart _ tag n _ =>
    cases h
    obtain ⟨w, hw⟩ := State.onNamedLink_takeRequest tag n State.linkStart
    exact ⟨tag, 0x0C, fun _ => w, fun s => congrArg (fun g => Host.Outcome.next (s.frameArrives .d seq g)) (funext hw)⟩
  | linkStop _ tag n _ =>
    cases h
    obtain ⟨w, hw⟩ := State.onNamedLink_takeRequest tag n State.linkStop
    exact ⟨tag, 0x0C, fun _ => w, fun s => congrArg (fun g => Host.Outcome.next (s.frameArrives .d seq g)) (funext hw)⟩
  | linkReset _ tag n _ =>
    cases h
    obtain ⟨w, hw⟩ := State.onNamedLink_takeRequest tag n (fun s l => (.ok, s.linkReset l))
    exact ⟨tag, 0x0C, fun _ => w, fun s => congrArg (fun g => Host.Outcome.next (s.frameArrives .d seq g)) (funext hw)⟩
  | clear _ _ _ => cases h; exact ⟨_, _, _, fun _ => rfl⟩
  | protect _ _ _ => cases h; exact ⟨_, _, _, fun _ => rfl⟩
  | lock _ _ _ => cases h; exact ⟨_, _, _, fun _ => rfl⟩
  | resetArm _ _ _ => cases h; exact ⟨_, _, _, fun _ => rfl⟩
  | unknownRequest _ _ _ _ => cases h; exact ⟨_, _, _, fun _ => rfl⟩
  | shortRequestPayload _ _ => cases h; exact ⟨_, _, _, fun _ => rfl⟩
  | linkBadAction _ tag n _ _ =>
    cases h
    obtain ⟨w, hw⟩ := State.onNamedLink_takeRequest tag n (fun s _ => (.badValue, s))
    exact ⟨tag, 0x0C, fun _ => w, fun s => congrArg (fun g => Host.Outcome.next (s.frameArrives .d seq g)) (funext hw)⟩
  | _ => cases h

/-- A lost request, as one update (R138). -/
theorem State.loseRequest_eq (s : State) (t : RequestTraits) : s.loseRequest t = { s with
    flags := { s.flags.discarding s.management with replyLost := true }
    management := { s.management with armLatch := s.management.armLatch && !t.guarded, partialRecord := [] } } := by
  unfold State.loseRequest State.dropLatch
  rw [State.discardPartial_eq]
  cases t.guarded with
  | true =>
    rw [Bool.not_true, Bool.and_false]
    rfl
  | false =>
    rw [Bool.not_false, Bool.and_true]
    rfl

/-- Settles O47. -/
theorem requestsAtAFullQueueAreLost : Obligations.RequestsAtAFullQueueAreLost := by
  intro c seq s hc hs hfull guarded arms
  obtain ⟨tag, code, work, arrives⟩ := exec_takeRequest hc
  have guards : (requestTraits c).guarded = guarded := by cases c <;> rfl
  have sets : (requestTraits c).setsResetArm = arms := by cases c <;> rfl
  rw [arrives, State.frameArrives_ready _ _ _ hs, ← guards, ← sets]
  have lost : (s.tookFrame seq).takeRequest (requestTraits c) tag code (work (s.tookFrame seq)) =
      ((s.tookFrame seq).actOnResetArm (requestTraits c)).loseRequest (requestTraits c) := if_pos hfull
  rw [lost, State.loseRequest_eq]
  rfl

/-! ### Guarded requests -/

theorem natBytes_eq (n : Nat) : natBytes n = [BitVec.ofNat 8 (n / 256), BitVec.ofNat 8 n] := by
  simp only [natBytes, wordBytes, Word.hi, Word.lo, List.cons.injEq, and_true]
  constructor
  · apply BitVec.eq_of_toNat_eq
    simp
    omega
  · apply BitVec.eq_of_toNat_eq
    simp

theorem State.cursorReport_eq (s : State) : s.cursorReport = s.management.report := by
  unfold State.cursorReport Management.report
  simp only [natBytes_eq]
  cases s.management.cursorMode <;> rfl

theorem GlobalFlags.discarding_nil (f : GlobalFlags) {m : Management} (h : m.partialRecord = []) : f.discarding m = f := by
  unfold GlobalFlags.discarding
  rw [h, decide_eq_false (not_not_intro rfl), Bool.or_false]

/-- A guarded request's refusal by the common steps, its reply with the cursor report or not (R139, R140). -/
def State.refused (s : State) (seq : Byte) (t : RequestTraits) (tag code result : Byte) (m : Management) : State :=
  { s.afterRequest seq { tag := tag, code := code, result := result, count := 0
                         data := if t.reportsCursor then m.report else [], eligible := s.now } with management := m }

section
variable {s : State} {seq : Byte} (h : s.readyFor seq) {t : RequestTraits} (hg : t.guarded = true)
  (hr : t.setsResetArm = false) (tag code : Byte) (work : State → State → State)
include h

/-- The refusal offered with the buffer empty and the management unit as given. -/
theorem State.answerWith_refused (m : Management) (r : ResultCode) :
    ({ s.requested seq plainRequest with management := m }).answerWith t tag code r =
      s.refused seq t tag code r.code m := by
  unfold State.answerWith
  rw [State.cursorReport_eq]
  exact State.requested_reply h rfl m tag code r 0 _

include hg hr

/-- With the latch clear the request is refused with NOT_ARMED (R140). -/
theorem State.takeRequest_notArmed (hl : s.management.armLatch = false) :
    (s.frameArrives .d seq fun u => u.takeRequest t tag code (work u)) =
      s.refused seq t tag code 1 s.management.cleared := by
  have hroom : ¬ 16 ≤ ((s.tookFrame seq).actOnResetArm t).level .d := Nat.not_le.mpr h.2
  have latch : (s.requested seq t).management.armLatch = s.management.armLatch := rfl
  have emptied : (s.requested seq t).discardPartial = s.requested seq plainRequest := by
    obtain ⟨guarded, keeps, sets, reports⟩ := t
    subst hr
    cases keeps with
    | true => exact State.discardPartial_eq _
    | false => exact if_pos rfl
  rw [State.frameArrives_ready _ _ _ h.1]
  refine (if_neg hroom).trans ?_
  rw [← State.requested_eq, latch, hg, hl, emptied]
  exact State.answerWith_refused h tag code s.management.cleared .notArmed

/-- With a FILL in flight it is refused with BUSY, and the latch cleared (R140, R147). -/
theorem State.takeRequest_busy (hl : s.management.armLatch = true) (hf : s.management.fill ≠ none)
    (hp : s.management.partialRecord = []) : (s.frameArrives .d seq fun u => u.takeRequest t tag code (work u)) =
      s.refused seq t tag code 2 { s.management.cleared with armLatch := false } := by
  have hroom : ¬ 16 ≤ ((s.tookFrame seq).actOnResetArm t).level .d := Nat.not_le.mpr h.2
  have latch : (s.requested seq t).management.armLatch = s.management.armLatch := rfl
  have fill : (s.requested seq t).busy = true := Option.isSome_iff_ne_none.mpr hf
  have kept : s.requested seq t = s.requested seq plainRequest := by
    unfold State.requested
    rw [s.flags.discarding_nil hp, hp, hr, ite_self, ite_self]
    rfl
  have dropped : (s.requested seq t).dropLatch t =
      { s.requested seq plainRequest with management := { s.management.cleared with armLatch := false } } := by
    rw [kept]
    exact if_pos hg
  rw [State.frameArrives_ready _ _ _ h.1]
  refine (if_neg hroom).trans ?_
  rw [← State.requested_eq, latch, fill, hg, hl, dropped]
  exact State.answerWith_refused h tag code _ .busy

end

/-- Settles O48. -/
theorem guardedRequestsNeedTheLatch : Obligations.GuardedRequestsNeedTheLatch := by
  intro c seq tag code args s h hc answered
  obtain ⟨work, arrives, hg, hr, hcode⟩ : ∃ work : State → State → State,
      exec c s = .next (s.frameArrives .d seq fun u => u.takeRequest (requestTraits c) tag code (work u))
        ∧ (requestTraits c).guarded = true ∧ (requestTraits c).setsResetArm = false
        ∧ (requestTraits c).reportsCursor = decide (code = 0x05) := by
    rcases hc with ⟨rfl, rfl⟩ | ⟨rfl, rfl⟩ | ⟨rfl, rfl⟩ | ⟨rfl, rfl⟩ <;> exact ⟨_, rfl, rfl, rfl, rfl⟩
  have refusal (result : Byte) (m : Management) : s.refused seq (requestTraits c) tag code result m = answered result m := by
    unfold State.refused
    simp only [hcode, decide_eq_true_eq]
    rfl
  rw [arrives, ← refusal, ← refusal]
  exact ⟨fun hl => congrArg _ (State.takeRequest_notArmed h hg hr tag code work hl),
    fun hl hf hp => congrArg _ (State.takeRequest_busy h hg hr tag code work hl hf hp)⟩

end Sys2Proof.Machine

/-! PROOFS. Management requests (chapters 8 to 10): a request row as its frame, FILL's acceptance, CURSOR and STATUS. -/

namespace Sys2Proof.Machine

/-! ### A request row is its frame -/

theorem requestPayload_fits (tag code : Byte) {args : List Byte} (h : argumentsFit args = true) :
    (tag :: code :: args).length ≤ 62 := Nat.add_le_add_right (of_decide_eq_true h) 2

theorem linkPayload_fits (tag n action : Byte) {extra : List Byte} (h : linkExtraFits extra = true) :
    (tag :: 0x0C :: n :: action :: extra).length ≤ 62 := Nat.add_le_add_right (of_decide_eq_true h) 4

theorem State.dispatchRequest_unknown {code : Byte} (h : requestCodeIsKnown code = false) (s : State) (tag : Byte)
    (args : List Byte) : s.dispatchRequest tag code args = s.takeUnknown tag code args := by
  unfold State.dispatchRequest
  simp only [requestCodeIsKnown, Bool.and_eq_false_iff, decide_eq_false_iff_not] at h
  split
  on_goal 18 => rfl
  all_goals omega

theorem State.takeLink_badAction {action : Byte} (h : 2 < action.toNat) (s : State) (tag n : Byte) (extra : List Byte) :
    s.takeLink tag (n :: action :: extra) = s.takeLinkBadAction tag n := by
  have long : ¬ (n :: action :: extra).length < 2 := by simp
  refine (if_neg long).trans ?_
  have second : byteAt (n :: action :: extra) 1 = action := rfl
  rw [second]
  split
  on_goal 4 => rfl
  all_goals omega

/-- A request row that can arise is the arrival of a frame whose payload the management unit handles (R137, log entry
6). -/
theorem exec_handleRequest {c : Instr} {seq : Byte} {payload : List Byte} (hc : requestSeq c = some seq)
    (hp : requestPayload c = some payload) (hw : c.wellFormed = true) : payload.length ≤ 62
      ∧ ∀ s, exec c s = .next (s.frameArrives .d seq fun u => u.handleRequest payload) := by
  cases c with
  | arm _ tag args => cases hc; cases hp; exact ⟨requestPayload_fits tag _ hw, fun _ => rfl⟩
  | disarm _ tag args => cases hc; cases hp; exact ⟨requestPayload_fits tag _ hw, fun _ => rfl⟩
  | status _ tag args => cases hc; cases hp; exact ⟨requestPayload_fits tag _ hw, fun _ => rfl⟩
  | cursor _ tag args => cases hc; cases hp; exact ⟨requestPayload_fits tag _ hw, fun _ => rfl⟩
  | put _ tag args => cases hc; cases hp; exact ⟨requestPayload_fits tag _ hw, fun _ => rfl⟩
  | get _ tag args => cases hc; cases hp; exact ⟨requestPayload_fits tag _ hw, fun _ => rfl⟩
  | fill _ tag args => cases hc; cases hp; exact ⟨requestPayload_fits tag _ hw, fun _ => rfl⟩
  | override _ tag args => cases hc; cases hp; exact ⟨requestPayload_fits tag _ hw, fun _ => rfl⟩
  | release _ tag args => cases hc; cases hp; exact ⟨requestPayload_fits tag _ hw, fun _ => rfl⟩
  | freeze _ tag args => cases hc; cases hp; exact ⟨requestPayload_fits tag _ hw, fun _ => rfl⟩
  | resume _ tag args => cases hc; cases hp; exact ⟨requestPayload_fits tag _ hw, fun _ => rfl⟩
  | clear _ tag args => cases hc; cases hp; exact ⟨requestPayload_fits tag _ hw, fun _ => rfl⟩
  | protect _ tag args => cases hc; cases hp; exact ⟨requestPayload_fits tag _ hw, fun _ => rfl⟩
  | lock _ tag args => cases hc; cases hp; exact ⟨requestPayload_fits tag _ hw, fun _ => rfl⟩
  | resetArm _ tag args => cases hc; cases hp; exact ⟨requestPayload_fits tag _ hw, fun _ => rfl⟩
  | reset _ tag args => cases hc; cases hp; exact ⟨requestPayload_fits tag _ hw, fun _ => rfl⟩
  | linkStart _ tag n extra => cases hc; cases hp; exact ⟨linkPayload_fits tag n _ hw, fun _ => rfl⟩
  | linkStop _ tag n extra => cases hc; cases hp; exact ⟨linkPayload_fits tag n _ hw, fun _ => rfl⟩
  | linkReset _ tag n extra => cases hc; cases hp; exact ⟨linkPayload_fits tag n _ hw, fun _ => rfl⟩
  | unknownRequest _ tag code args =>
    cases hc; cases hp
    obtain ⟨unknown, fits⟩ := Bool.and_eq_true_iff.mp hw
    refine ⟨requestPayload_fits tag code fits, fun s => congrArg (fun g => Host.Outcome.next (s.frameArrives .d seq g)) ?_⟩
    exact funext fun u => (State.dispatchRequest_unknown (by simpa using unknown) u tag args).symm
  | shortRequestPayload _ tag =>
    cases hc; cases hp
    cases tag with
    | none => exact ⟨Nat.zero_le _, fun _ => rfl⟩
    | some tag => exact ⟨(by decide : 1 ≤ 62), fun _ => rfl⟩
  | linkBadAction _ tag n action extra =>
    cases hc; cases hp
    obtain ⟨bad, fits⟩ := Bool.and_eq_true_iff.mp hw
    refine ⟨linkPayload_fits tag n action fits, fun s => congrArg (fun g => Host.Outcome.next (s.frameArrives .d seq g)) ?_⟩
    exact funext fun u => (State.takeLink_badAction (of_decide_eq_true bad) u tag n extra).symm
  | _ => cases hc

/-- Settles O53. -/
theorem requestRowsAreTheirFrames : Obligations.RequestRowsAreTheirFrames := by
  intro c seq control summary stepTag payload s hc hp hw
  obtain ⟨fits, row⟩ := exec_handleRequest hc hp hw
  have notUpdate : (0x07 : Byte) ≠ kindUpdate := by decide
  have read := Frame.ofBytes_toBytes (f := ⟨0x07, control, seq, stepTag, summary, payload⟩) ⟨fits, fun h => absurd h notUpdate⟩
  rw [row, exec_frameReceived read]
  refine congrArg (fun g => Host.Outcome.next (s.frameArrives .d seq g)) (funext fun u => ?_)
  exact ((if_neg notUpdate).trans (if_pos ⟨rfl, rfl⟩)).symm

/-! ### FILL's acceptance -/

theorem Management.protectsRun_iff (m : Management) (first count : Nat) : m.protectsRun first count = true ↔
    ∃ i, first ≤ i ∧ i < first + count ∧ m.protects i = true := by
  simp only [Management.protectsRun, List.any_eq_true, List.mem_range]
  constructor
  · rintro ⟨k, hk, hp⟩
    exact ⟨first + k, by omega, by omega, hp⟩
  · rintro ⟨i, h1, h2, hp⟩
    exact ⟨i - first, by omega, by rwa [Nat.add_sub_cancel' h1]⟩

section
variable {s : State} {args : List Byte}

theorem State.fillRefusal_short (h : args.length < 5 ∨ TableId.ofCode (byteAt args 0) = none) :
    s.fillRefusal args = .error .badValue := by
  unfold State.fillRefusal
  split
  · rfl
  · next hlen => rw [h.resolve_left hlen]

variable {t : TableId} (hlen : 5 ≤ args.length) (ht : TableId.ofCode (byteAt args 0) = some t)
include hlen ht

theorem State.fillRefusal_table : s.fillRefusal args =
    if args.length < 5 + t.recordBytes then .error .badValue
    else if (wordAt args 3).toNat = 0 then .error .badValue
    else if t.size ≤ (wordAt args 1).toNat || t.size < (wordAt args 1).toNat + (wordAt args 3).toNat then .error .badIndex
    else if t = .route && s.management.protectsRun (wordAt args 1).toNat (wordAt args 3).toNat then .error .isProtected
    else .ok t := by
  unfold State.fillRefusal
  rw [if_neg (Nat.not_lt.mpr hlen), ht]

end

theorem State.fillWork_refused {s : State} {args : List Byte} {r : ResultCode}
    (h : ({ s with management := { s.management with armLatch := false } }).fillRefusal args = .error r) (tag : Byte) :
    s.fillWork tag args = ({ s with management := { s.management with armLatch := false } }).answer tag 0x07 r := by
  unfold State.fillWork
  simp only [State.modManagement, h]

theorem State.fillWork_accepted {s : State} {args : List Byte} {t : TableId}
    (h : ({ s with management := { s.management with armLatch := false } }).fillRefusal args = .ok t) (tag : Byte) :
    s.fillWork tag args = { s with management := { s.management with
      armLatch := false
      fillNext := (wordAt args 1).toNat
      fill := some
        { tag := tag, table := t, last := (wordAt args 1).toNat + (wordAt args 3).toNat - 1
          record := (args.drop 5).take t.recordBytes, written := 0, due := s.now + 10 } } } := by
  unfold State.fillWork
  simp only [State.modManagement, h]
  rfl

/-- Settles O38. -/
theorem fillIsAcceptedOrRefused : Obligations.FillIsAcceptedOrRefused := by
  intro seq tag args s h hl hf first count refused
  have fill {u : State} (hu : (s.requested seq guardedRequest).fillWork tag args = u) :
      exec (.fill seq tag args) s = .next u := exec_ready h rfl (fun _ => ⟨hl, hf⟩) hu
  have refuses {r : ResultCode} (hr : ({ s.requested seq guardedRequest with
      management := { s.management.cleared with armLatch := false } }).fillRefusal args = .error r) :
      exec (.fill seq tag args) s = .next (refused r.code) :=
    fill ((State.fillWork_refused hr tag).trans (State.requested_answer h rfl _ tag 0x07 r))
  refine ⟨fun hshort => refuses (State.fillRefusal_short hshort), fun t hlen ht => ⟨fun hbad => ?_,
    fun hrec hcount hindex => ?_, fun hrec hcount hfit hroute hprot => ?_, fun hrec hcount hfit hfree => ?_⟩⟩
  · refine refuses (r := .badValue) ((State.fillRefusal_table hlen ht).trans ?_)
    split
    · rfl
    · next hrec => exact if_pos (hbad.resolve_left hrec)
  · refine refuses (r := .badIndex) ((State.fillRefusal_table hlen ht).trans ?_)
    rw [if_neg (Nat.not_lt.mpr hrec), if_neg hcount, if_pos (by simpa using hindex)]
  · have inside : ¬ (t.size ≤ first || t.size < first + count) = true := by simp; omega
    refine refuses (r := .isProtected) ((State.fillRefusal_table hlen ht).trans ?_)
    rw [if_neg (Nat.not_lt.mpr hrec), if_neg hcount, if_neg inside, if_pos]
    exact Bool.and_eq_true_iff.mpr ⟨decide_eq_true hroute, (s.management.protectsRun_iff first count).mpr hprot⟩
  · have inside : ¬ (t.size ≤ first || t.size < first + count) = true := by simp; omega
    refine fill (State.fillWork_accepted ((State.fillRefusal_table hlen ht).trans ?_) tag)
    rw [if_neg (Nat.not_lt.mpr hrec), if_neg hcount, if_neg inside, if_neg]
    simp only [Bool.and_eq_true, decide_eq_true_eq, not_and]
    intro hroute hprot
    obtain ⟨i, h1, h2, hp⟩ := (s.management.protectsRun_iff first count).mp hprot
    rw [hfree hroute i h1 h2] at hp
    cases hp

/-! ### CURSOR -/

theorem TableId.ofCode_eq_some_iff (b : Byte) (t : TableId) : TableId.ofCode b = some t ↔ b = t.code := by
  revert b
  cases t <;> decide

theorem TableId.ofCode_eq_none_iff : ∀ b : Byte, TableId.ofCode b = none ↔ 5 < b.toNat := by decide

/-- Settles O35. -/
theorem cursorMovesInsideItsTable : Obligations.CursorMovesInsideItsTable := by
  refine ⟨TableId.ofCode_eq_some_iff, TableId.ofCode_eq_none_iff, fun t => by cases t <;> rfl, ?_⟩
  intro seq tag args s h m answer
  have cursor {r : ResultCode} {m' : Management} (hr : (s.requested seq cursorRequest).moveCursor args =
      (r, { s.requested seq cursorRequest with management := m' })) :
      exec (.cursor seq tag args) s = .next (answer r.code m') := by
    refine exec_unguarded h rfl rfl ?_
    simp only [hr]
    exact State.answerWith_refused h (t := cursorRequest) tag 0x04 m' r
  have refused {r : ResultCode} (hr : (s.requested seq cursorRequest).moveCursor args =
      (r, s.requested seq cursorRequest)) : exec (.cursor seq tag args) s = .next (answer r.code m) := cursor hr
  have place (hlen : 3 ≤ args.length) {t : TableId} (ht : TableId.ofCode (byteAt args 0) = some t) :
      (s.requested seq cursorRequest).moveCursor args =
        if t.size ≤ (wordAt args 1).toNat then (.badIndex, s.requested seq cursorRequest)
        else (.ok, { s.requested seq cursorRequest with
          management := { m with cursorTable := t, cursorIndex := (wordAt args 1).toNat } }) := by
    unfold State.moveCursor
    rw [if_neg (Nat.not_lt.mpr hlen), ht]
    rfl
  refine ⟨fun hlen => refused (r := .badValue) (if_pos hlen), fun hlen ht => refused (r := .badValue) ?_,
    fun t hlen ht hsize => refused (r := .badIndex) ((place hlen ht).trans (if_pos hsize)),
    fun t hlen ht hsize => cursor (r := .ok) ((place hlen ht).trans (if_neg (Nat.not_le.mpr hsize)))⟩
  unfold State.moveCursor
  rw [if_neg (Nat.not_lt.mpr hlen), ht]

/-! ### STATUS and the summary byte -/

theorem State.summary_bits (s : State) : (s.summary.extractLsb' 6 2) = s.freeze.state.code
    ∧ s.summary.getLsbD 5 = s.batch.isOpen ∧ s.summary.getLsbD 4 = s.busy ∧ s.summary.getLsbD 3 = s.flags.any
    ∧ s.summary.getLsbD 2 = LinkId.all.any s.pressure ∧ s.summary.getLsbD 1 = false ∧ s.summary.getLsbD 0 = false := by
  unfold State.summary
  generalize s.freeze.state.code = f, s.batch.isOpen = b, s.busy = c, s.flags.any = d, LinkId.all.any s.pressure = e
  revert f b c d e
  decide

theorem GlobalFlags.any_iff (f : GlobalFlags) : f.any = true ↔ f.stepTorn = true ∨ f.stepTimeout = true
    ∨ f.freezeLate = true ∨ f.resumeLate = true ∨ f.replyLost = true ∨ f.partialDiscarded = true ∨ f.clipped = true := by
  simp only [GlobalFlags.any, Bool.or_eq_true, or_assoc]

theorem LinkId.any_all_iff (p : LinkId → Bool) : LinkId.all.any p = true ↔ ∃ l, p l = true := by
  rw [List.any_eq_true]
  exact ⟨fun ⟨l, _, h⟩ => ⟨l, h⟩, fun ⟨l, h⟩ => ⟨l, by cases l <;> decide, h⟩⟩

theorem GlobalFlags.toByte_bits (f : GlobalFlags) : f.toByte.getLsbD 0 = f.stepTorn
    ∧ f.toByte.getLsbD 1 = f.stepTimeout ∧ f.toByte.getLsbD 2 = f.freezeLate ∧ f.toByte.getLsbD 3 = f.resumeLate
    ∧ f.toByte.getLsbD 4 = f.replyLost ∧ f.toByte.getLsbD 5 = f.partialDiscarded ∧ f.toByte.getLsbD 6 = f.clipped := by
  unfold GlobalFlags.toByte
  generalize f.stepTorn = a, f.stepTimeout = b, f.freezeLate = c, f.resumeLate = d, f.replyLost = e,
    f.partialDiscarded = g, f.clipped = i
  revert a b c d e g i
  decide

theorem LinkFlags.toWord_bits (f : LinkFlags) : f.toWord.getLsbD 0 = f.checkErr ∧ f.toWord.getLsbD 1 = f.seqGap
    ∧ f.toWord.getLsbD 2 = f.ownerMismatch ∧ f.toWord.getLsbD 3 = f.wrongKind ∧ f.toWord.getLsbD 4 = f.slotOverrun
    ∧ f.toWord.getLsbD 5 = f.tailOrphan ∧ f.toWord.getLsbD 6 = f.eventDrop ∧ f.toWord.getLsbD 7 = f.startTimeout
    ∧ f.toWord.getLsbD 8 = f.signalLost := by
  unfold LinkFlags.toWord
  generalize f.checkErr = a, f.seqGap = b, f.ownerMismatch = c, f.wrongKind = d, f.slotOverrun = e, f.tailOrphan = g,
    f.eventDrop = i, f.startTimeout = j, f.signalLost = k
  revert a b c d e g i j k
  decide

theorem State.managementByte_bits (s : State) (arm : Bool) : (s.managementByte arm).getLsbD 0 = s.management.armLatch
    ∧ (s.managementByte arm).getLsbD 1 = arm ∧ (s.managementByte arm).getLsbD 2 = s.management.fill.isSome
    ∧ (s.managementByte arm).getLsbD 3 = s.management.limitLock
    ∧ (s.managementByte arm).getLsbD 4 = decide (s.management.side = .high) := by
  unfold State.managementByte State.busy
  generalize s.management.armLatch = a, s.management.fill.isSome = b, s.management.limitLock = c,
    decide (s.management.side = .high) = d
  revert arm a b c d
  decide

/-- The fourth of a link's bytes in the STATUS record: PRESSURE and the queue level (R134). -/
theorem levelByte_bits (pressure : Bool) (level : BitVec 5) :
    (BitVec.ofBool pressure ++ (0 : BitVec 2) ++ level : Byte).getLsbD 7 = pressure
      ∧ (BitVec.ofBool pressure ++ (0 : BitVec 2) ++ level : Byte).extractLsb' 0 5 = level := by
  revert pressure level
  decide

/-- A word that stands in a string as its two bytes. -/
theorem wordAt_of_bytes {bs : List Byte} {i : Nat} {w : Word} (hi : byteAt bs i = w.hi) (lo : byteAt bs (i + 1) = w.lo) :
    wordAt bs i = w := by
  rw [wordAt, hi, lo, Word.hi_append_lo]

/-- The global part of the STATUS record (R134). -/
theorem State.statusRecord_globals (s : State) (arm : Bool) : byteAt (s.statusRecord arm) 0 = s.freeze.state.code.setWidth 8
    ∧ byteAt (s.statusRecord arm) 1 = byteOfBit s.batch.isOpen
    ∧ wordAt (s.statusRecord arm) 2 = s.batch.openTag ∧ wordAt (s.statusRecord arm) 4 = s.batch.currentTag
    ∧ byteAt (s.statusRecord arm) 6 = s.managementByte arm
    ∧ wordAt (s.statusRecord arm) 7 = BitVec.ofNat 16 s.management.fillNext
    ∧ wordAt (s.statusRecord arm) 9 = BitVec.ofNat 16 s.management.boundary
    ∧ byteAt (s.statusRecord arm) 11 = s.flags.toByte
    ∧ wordAt (s.statusRecord arm) 12 = BitVec.ofNat 16 s.lastClipped.val :=
  ⟨rfl, rfl, wordAt_of_bytes rfl rfl, wordAt_of_bytes rfl rfl, rfl, wordAt_of_bytes rfl rfl, wordAt_of_bytes rfl rfl, rfl,
    wordAt_of_bytes rfl rfl⟩

/-- A link's part of the STATUS record (R134). -/
theorem State.statusRecord_link (s : State) (arm : Bool) (l : LinkId) :
    byteAt (s.statusRecord arm) (14 + 6 * l.number) = (s.port l).state.code
      ∧ wordAt (s.statusRecord arm) (14 + 6 * l.number + 1) = (s.port l).flags.toWord
      ∧ byteAt (s.statusRecord arm) (14 + 6 * l.number + 3) =
          (BitVec.ofBool (s.pressure l) ++ (0 : BitVec 2) ++ BitVec.ofNat 5 (s.level l) : Byte)
      ∧ wordAt (s.statusRecord arm) (14 + 6 * l.number + 4) = BitVec.ofNat 16 (s.staleCount l) := by
  cases l <;> exact ⟨rfl, wordAt_of_bytes rfl rfl, rfl, wordAt_of_bytes rfl rfl⟩

/-- Settles O34. -/
theorem statusAndSummaryReportThePart : Obligations.StatusAndSummaryReportThePart := by
  refine ⟨fun s => ?_, fun seq tag args s h => ?_⟩
  · obtain ⟨freeze, batch, fill, flags, pressure, low1, low0⟩ := s.summary_bits
    refine ⟨?_, batch, fill, ?_, ?_, low1, low0⟩
    · rw [freeze]
      cases s.freeze.state <;> rfl
    · rw [flags, GlobalFlags.any_iff]
    · rw [pressure, LinkId.any_all_iff]
      simp only [State.pressure, decide_eq_true_eq]
      rfl
  · have record := (s.requested seq plainRequest).statusRecord_globals s.management.resetArm
    have links := (s.requested seq plainRequest).statusRecord_link s.management.resetArm
    have taken : exec (.status seq tag args) s = .next ((s.requested seq plainRequest).offerReply tag 0x03 .ok 1
        ((s.requested seq plainRequest).statusRecord s.management.resetArm)) :=
      exec_unguarded (t := plainRequest) (tag := tag) (code := 0x03)
        (work := fun u v => v.offerReply tag 0x03 .ok 1 (v.statusRecord u.management.resetArm)) h rfl rfl rfl
    have length := (s.requested seq plainRequest).statusRecord_length s.management.resetArm
    generalize (s.requested seq plainRequest).statusRecord s.management.resetArm = data at record links taken length
    obtain ⟨freeze, batch, openTag, currentTag, management, fillNext, boundary, flags, clipped⟩ := record
    obtain ⟨latch, arm, fill, lock, side⟩ := (s.requested seq plainRequest).managementByte_bits s.management.resetArm
    obtain ⟨torn, timeout, freezeLate, resumeLate, lost, discarded, clips⟩ :=
      (s.flags.discarding s.management).toByte_bits
    have flagByte : byteAt data 11 = (s.flags.discarding s.management).toByte := flags
    rw [← management] at latch arm fill lock side
    rw [← flagByte] at torn timeout freezeLate resumeLate lost discarded clips
    refine ⟨data, taken.trans (congrArg Host.Outcome.next ?_), length, ?_, batch, openTag, currentTag, latch, arm, fill,
      lock, side, fillNext, boundary, torn, timeout, freezeLate, resumeLate, lost, discarded, clips, clipped, fun l => ?_⟩
    · exact State.requested_reply h rfl s.management.cleared tag 0x03 .ok 1 data
    · rw [freeze]
      show ((s.freeze.state.code.setWidth 8 : Byte)).toNat = _
      cases s.freeze.state <;> rfl
    · obtain ⟨state, word, level, stale⟩ := links l
      have same : ((s.requested seq plainRequest).port l).state = (s.port l).state
          ∧ ((s.requested seq plainRequest).port l).flags = (s.port l).flags
          ∧ (s.requested seq plainRequest).pressure l = s.pressure l
          ∧ (s.requested seq plainRequest).level l = s.level l := by
        cases l <;> exact ⟨rfl, rfl, rfl, rfl⟩
      obtain ⟨sameState, sameFlags, samePressure, sameLevel⟩ := same
      obtain ⟨check, gap, owner, kind, overrun, orphan, drop, start, signal⟩ := (s.port l).flags.toWord_bits
      obtain ⟨high, low⟩ := levelByte_bits (s.pressure l) (BitVec.ofNat 5 (s.level l))
      rw [sameFlags] at word
      rw [samePressure, sameLevel] at level
      rw [← word] at check gap owner kind overrun orphan drop start signal
      rw [← level] at high low
      refine ⟨?_, check, gap, owner, kind, overrun, orphan, drop, start, signal, high, low, ?_⟩
      · rw [state, sameState]
        cases (s.port l).state <;> rfl
      · rw [stale, State.staleCount_eq]
        rfl

end Sys2Proof.Machine

/-! PROOFS. CLEAR, and the requests on the tables: GET, PUT and the writes of a FILL (chapter 8). -/

namespace Sys2Proof.Machine

/-! ### CLEAR -/

/-- The flags of a link after CLEAR (R155). -/
theorem State.clearFlags_port (s : State) (sel : List Byte) (l : LinkId) : (s.clearFlags sel).port l =
    { s.port l with flags := (s.port l).flags.clearBy (wordAt sel (1 + 2 * l.number)) } := by cases l <;> rfl

theorem State.clearFlags_eq (s : State) (sel : List Byte) : s.clearFlags sel =
    { s with ports := (s.clearFlags sel).ports, flags := s.flags.clearBy (byteAt sel 0) } := rfl

/-- Settles O44. -/
theorem clearClearsTheNamedFlags : Obligations.ClearClearsTheNamedFlags := by
  intro seq tag args s h
  refine ⟨fun hlen => exec_unguarded h rfl rfl ?_, fun hlen => ?_⟩
  · exact (if_pos hlen).trans (State.plainRequest_answer h tag 0x0D .badValue)
  · have done : exec (.clear seq tag args) s = .next (((s.requested seq plainRequest).clearFlags args).answer tag 0x0D .ok) :=
      exec_unguarded h rfl rfl (if_neg (Nat.not_lt.mpr hlen))
    have port := (s.requested seq plainRequest).clearFlags_port args
    have rest := (s.requested seq plainRequest).clearFlags_eq args
    generalize (s.requested seq plainRequest).clearFlags args = r at done port rest
    have reply : r.answer tag 0x0D .ok = r.setPort .d { r.port .d with queue := (r.port .d).queue ++
        [.reply (plainReply tag 0x0D 0 r.now)] } :=
      State.offerReply_joins r tag 0x0D .ok 0 [] (by rw [port]; exact h.1.1) (by rw [port]; exact h.2)
    have now : r.now = s.now := by rw [rest]; rfl
    rw [reply, now] at done
    refine ⟨_, done, ?_, ?_, fun l => ?_⟩
    · generalize r.ports = ps at rest
      rw [rest]
      rfl
    · have flags : r.flags = (s.flags.discarding s.management).clearBy (byteAt args 0) := by rw [rest]; rfl
      show r.flags.stepTorn = _ ∧ r.flags.stepTimeout = _ ∧ r.flags.freezeLate = _ ∧ r.flags.resumeLate = _
        ∧ r.flags.replyLost = _ ∧ r.flags.partialDiscarded = _ ∧ r.flags.clipped = _
      rw [flags]
      exact ⟨rfl, rfl, rfl, rfl, rfl, rfl, rfl⟩
    · rw [State.setPort_port, port, port]
      cases l <;> exact ⟨rfl, rfl, rfl, rfl, rfl, rfl, rfl, rfl, rfl, rfl⟩

/-! ### GET -/

theorem Management.advance_eq {m : Management} (h : m.cursorIndex < m.cursorTable.size) :
    m.advance = { m with cursorIndex := (m.cursorIndex + 1) % m.cursorTable.size } := by
  unfold Management.advance
  split
  · next hlt => rw [Nat.mod_eq_of_lt hlt]
  · next hge =>
    have last : m.cursorIndex + 1 = m.cursorTable.size := by omega
    rw [last, Nat.mod_self]

/-- A run of records read from the cursor on (R144). -/
theorem State.getRecords_eq (n : Nat) : ∀ s : State, s.management.cursorIndex < s.management.cursorTable.size →
    s.getRecords n =
      ({ s with management := { s.management with
          cursorIndex := (s.management.cursorIndex + n) % s.management.cursorTable.size } },
        (List.range n).flatMap fun i =>
          s.readRecord s.management.cursorTable ((s.management.cursorIndex + i) % s.management.cursorTable.size)) := by
  induction n with
  | zero =>
    intro s h
    simp only [Nat.add_zero, Nat.mod_eq_of_lt h]
    rfl
  | succ n ih =>
    intro s h
    have pos : 0 < s.management.cursorTable.size := by omega
    have next := ih { s with management := s.management.advance }
    rw [Management.advance_eq h] at next
    have rest := next (Nat.mod_lt _ pos)
    have shift (i : Nat) : ((s.management.cursorIndex + 1) % s.management.cursorTable.size + i) % s.management.cursorTable.size =
        (s.management.cursorIndex + (i + 1)) % s.management.cursorTable.size := by
      rw [Nat.mod_add_mod]
      congr 1
      omega
    have first := Nat.mod_eq_of_lt h
    unfold State.getRecords
    simp only [State.modManagement, Management.advance_eq h, rest, shift, List.range_succ_eq_map, List.flatMap_cons,
      Nat.add_zero, first, List.flatMap_map]
    rfl

theorem TableId.recordsPerGet_eq (t : TableId) : t.recordsPerGet = 48 / t.recordBytes := by cases t <;> rfl

theorem State.readRecord_entries (s : State) : (∀ c : CueId, s.readRecord .cue c.val = (s.cue c).toBytes)
    ∧ (∀ id : RouteId, s.readRecord .route id.val = (s.route id).record.toBytes)
    ∧ (∀ (l : LinkId) (t : BitVec 2), s.readRecord .template (l.number * 4 + t.toNat) = ((s.port l).template t).toBytes)
    ∧ (∀ l : LinkId, s.readRecord .plan l.number = planBytes (s.port l).plan
        ∧ s.readRecord .link l.number = (s.port l).settings.toBytes)
    ∧ s.readRecord .global 0 = s.globals.toBytes := by
  refine ⟨fun c => dif_pos c.isLt, fun id => dif_pos id.isLt, fun l t => ?_, fun l => ?_, rfl⟩
  · refine (dif_pos (templateIndex_lt l t)).trans ?_
    rw [linkOfIndex_template, templateOfIndex_template]
  · cases l <;> exact ⟨rfl, rfl⟩

theorem State.requested_settings (s : State) (seq : Byte) (t : RequestTraits) (l : LinkId) :
    ((s.requested seq t).port l).templates = (s.port l).templates ∧ ((s.requested seq t).port l).plan = (s.port l).plan
      ∧ ((s.requested seq t).port l).settings = (s.port l).settings := by cases l <;> exact ⟨rfl, rfl, rfl⟩

theorem State.requested_readRecord (s : State) (seq : Byte) (t : RequestTraits) (table : TableId) (i : Nat) :
    (s.requested seq t).readRecord table i = s.readRecord table i := by
  unfold State.readRecord
  split
  · cases table with
    | cue => rfl
    | route => rfl
    | template => simp only [Port.template, s.requested_settings seq t]
    | plan => simp only [s.requested_settings seq t]
    | link => simp only [s.requested_settings seq t]
    | global => rfl
  · rfl

/-- Settles O36. -/
theorem getReadsFromTheCursor : Obligations.GetReadsFromTheCursor := by
  refine ⟨State.readRecord_entries, ?_⟩
  intro seq tag args s h hcursor table first n
  refine ⟨fun hbad => ?_, fun hargs hcount => ?_⟩
  · refine exec_unguarded h rfl rfl ?_
    split
    · exact State.plainRequest_answer h tag 0x06 .badValue
    · next hlen =>
      have zero : byteAt args 0 = 0 := hbad.resolve_left fun hnil => hlen (by rw [hnil]; decide)
      exact (if_pos (by rw [zero]; rfl)).trans (State.plainRequest_answer h tag 0x06 .badValue)
  · have long : ¬ args.length < 1 := fun hlt => hargs (List.length_eq_zero_iff.mp (by omega))
    have some : ¬ (byteAt args 0).toNat = 0 := fun h0 => hcount (BitVec.eq_of_toNat_eq h0)
    have records := State.getRecords_eq n (s.requested seq plainRequest) hcursor
    have bound : min (byteAt args 0).toNat (s.requested seq plainRequest).management.cursorTable.recordsPerGet = n := by
      rw [TableId.recordsPerGet_eq]
      rfl
    refine exec_unguarded h rfl rfl ?_
    refine (if_neg long).trans ((if_neg some).trans ?_)
    dsimp only
    rw [bound, records]
    simp only [State.requested_readRecord]
    exact State.requested_reply (t := plainRequest) h rfl
      { s.management.cleared with cursorIndex := (first + n) % table.size, cursorMode := .read } tag 0x06 .ok n
      ((List.range n).flatMap fun i => s.readRecord table ((first + i) % table.size))

/-! ### A record written, by the management unit -/

/-- The part with another management unit. -/
def State.withManagement (s : State) (m : Management) : State := { s with management := m }

theorem State.reevaluate_withManagement (s : State) (m : Management) :
    (s.withManagement m).reevaluate = s.reevaluate.withManagement m := by
  have freeze : (s.withManagement m).reevaluate.freeze = s.reevaluate.freeze :=
    State.reevaluate_freeze_congr rfl (fun _ => rfl) fun _ => ⟨rfl, rfl⟩
  rw [State.reevaluate_eq (s.withManagement m), State.reevaluate_eq s, freeze]
  rfl

section
variable (s : State) (m : Management) (bs : List Byte)

theorem State.writeCue_withManagement (i : CueId) :
    (s.withManagement m).writeCue i bs = (s.writeCue i bs).map fun v => v.withManagement m := by
  have accept (c : CueConfig) : (s.withManagement m).acceptCue i c = (s.acceptCue i c).withManagement m := by
    by_cases hc : c.cls = (s.cue i).config.cls
    · rw [State.acceptCue_sameClass hc, State.acceptCue_sameClass (s := s.withManagement m) hc]
      rfl
    · rw [State.acceptCue_newClass hc, State.acceptCue_newClass (s := s.withManagement m) hc]
      exact State.reevaluate_withManagement ((s.setCue i ((s.cue i).configure c)).mapRoutes (Route.afterClassChange i)) m
  unfold State.writeCue
  cases CueConfig.ofBytes bs with
  | none => rfl
  | some c =>
    dsimp only
    rw [accept]
    split <;> rfl

theorem State.writeRoute_withManagement (id : RouteId) (h : m.protects id.val = s.management.protects id.val) :
    (s.withManagement m).writeRoute id bs = (s.writeRoute id bs).map fun v => v.withManagement m := by
  cases hp : s.management.protects id.val with
  | true =>
    rw [State.writeRoute_protected hp, State.writeRoute_protected (s := s.withManagement m) (h.trans hp)]
    rfl
  | false =>
    cases hb : RouteRecord.ofBytes bs with
    | none =>
      rw [State.writeRoute_unprotected hp, State.writeRoute_unprotected (s := s.withManagement m) (h.trans hp), hb]
      rfl
    | some r =>
      cases hr : s.routeRefusal id r with
      | some code =>
        rw [State.writeRoute_refused hp hb hr, State.writeRoute_refused (s := s.withManagement m) (h.trans hp) hb hr]
        rfl
      | none =>
        rw [State.writeRoute_accepted hp hb hr, State.writeRoute_accepted (s := s.withManagement m) (h.trans hp) hb hr]
        exact congrArg Except.ok (State.reevaluate_withManagement (s.setRoute id ((s.route id).rewritten r)) m)

theorem State.writeTemplate_withManagement (l : LinkId) (t : BitVec 2) :
    (s.withManagement m).writeTemplate l t bs = (s.writeTemplate l t bs).map fun v => v.withManagement m := by
  cases hr : s.templateRefusal l t (Template.ofBytes bs) with
  | some code =>
    rw [State.writeTemplate_refused hr, State.writeTemplate_refused (s := s.withManagement m) hr]
    rfl
  | none =>
    rw [State.writeTemplate_accepted hr, State.writeTemplate_accepted (s := s.withManagement m) hr]
    exact congrArg Except.ok
      (State.reevaluate_withManagement (s.setPort l ((s.port l).setTemplate t (Template.ofBytes bs))) m)

theorem State.writePlan_withManagement (l : LinkId) :
    (s.withManagement m).writePlan l bs = (s.writePlan l bs).map fun v => v.withManagement m := by
  cases hb : planOfBytes bs with
  | error code =>
    rw [State.writePlan_unread hb, State.writePlan_unread hb]
    rfl
  | ok p =>
    cases hr : s.planRefusal l p with
    | some code =>
      rw [State.writePlan_refused hb hr, State.writePlan_refused (s := s.withManagement m) hb hr]
      rfl
    | none =>
      rw [State.writePlan_accepted hb hr, State.writePlan_accepted (s := s.withManagement m) hb hr]
      exact congrArg Except.ok (State.reevaluate_withManagement (s.setPort l { s.port l with plan := p }) m)

theorem State.writeLink_withManagement (l : LinkId) :
    (s.withManagement m).writeLink l bs = (s.writeLink l bs).map fun v => v.withManagement m := by
  cases hb : LinkSettings.ofBytes bs with
  | none =>
    rw [State.writeLink_of_none hb, State.writeLink_of_none hb]
    rfl
  | some r =>
    cases hr : s.linkRefusal l r with
    | some code =>
      rw [State.writeLink_of_refusal hb hr, State.writeLink_of_refusal (s := s.withManagement m) hb hr]
      rfl
    | none =>
      rw [State.writeLink_of_accepted hb hr, State.writeLink_of_accepted (s := s.withManagement m) hb hr]
      rfl

theorem State.writeGlobal_withManagement :
    (s.withManagement m).writeGlobal bs = (s.writeGlobal bs).map fun v => v.withManagement m := by
  unfold State.writeGlobal
  split <;> rfl

/-- A record's checks and effects look at the management unit for the protected range alone (R42, R149). -/
theorem State.writeRecord_withManagement (h : ∀ r, m.protects r = s.management.protects r) (t : TableId) (i : Nat) :
    (s.withManagement m).writeRecord t i bs = (s.writeRecord t i bs).map fun v => v.withManagement m := by
  unfold State.writeRecord
  split
  · cases t with
    | cue => exact State.writeCue_withManagement s m bs _
    | route => exact State.writeRoute_withManagement s m bs _ (h _)
    | template => exact State.writeTemplate_withManagement s m bs _ _
    | plan => exact State.writePlan_withManagement s m bs _
    | link => exact State.writeLink_withManagement s m bs _
    | global => exact State.writeGlobal_withManagement s m bs
  · rfl

end

/-! ### PUT -/

/-- Bytes too few for a record stay in the buffer (R143). -/
theorem State.putBytes_part {s : State} {bytes : List Byte} (h : bytes.length < s.management.cursorTable.recordBytes)
    (written fuel : Nat) : s.putBytes written fuel bytes =
      ⟨.ok, written, s.withManagement { s.management with partialRecord := bytes }⟩ := by
  cases fuel with
  | zero => rfl
  | succ fuel => exact if_pos h

section
variable {s : State} {record rest : List Byte} (hlen : record.length = s.management.cursorTable.recordBytes)
  (written fuel : Nat)
include hlen

/-- A whole record that is refused stops the PUT (R143). -/
theorem State.putBytes_refused {code : ResultCode}
    (h : s.writeRecord s.management.cursorTable s.management.cursorIndex record = .error code) :
    s.putBytes written (fuel + 1) (record ++ rest) =
      ⟨code, written, s.withManagement { s.management with partialRecord := [] }⟩ := by
  have whole : ¬ (record ++ rest).length < s.management.cursorTable.recordBytes := by
    rw [List.length_append]
    omega
  refine (if_neg whole).trans ?_
  rw [← hlen, List.take_left, h]
  rfl

/-- A whole record that is accepted is written, and the cursor advances (R143). -/
theorem State.putBytes_accepted {v : State}
    (h : s.writeRecord s.management.cursorTable s.management.cursorIndex record = .ok v) :
    s.putBytes written (fuel + 1) (record ++ rest) =
      (v.withManagement v.management.advance).putBytes (written + 1) fuel rest := by
  have whole : ¬ (record ++ rest).length < s.management.cursorTable.recordBytes := by
    rw [List.length_append]
    omega
  refine (if_neg whole).trans ?_
  rw [← hlen, List.take_left, List.drop_left, h]
  rfl

end

/-- A run of accepted records of a PUT (R143): `m` is the management unit but for the cursor index. -/
theorem State.putBytes_run (m : Management) (records : List (List Byte)) (rest : List Byte) (u : State) (next : Nat)
    (hrecords : ∀ record ∈ records, record.length = m.cursorTable.recordBytes) :
    ∀ (s : State) (index written fuel : Nat), (∀ r, m.protects r = s.management.protects r) →
      State.WritesRun m.cursorTable s index records u next → (records.flatten ++ rest).length ≤ fuel →
      (∀ r, m.protects r = u.management.protects r) ∧ ∃ fuel', rest.length ≤ fuel'
        ∧ (s.withManagement { m with cursorIndex := index }).putBytes written fuel (records.flatten ++ rest) =
          (u.withManagement { m with cursorIndex := next }).putBytes (written + records.length) fuel' rest := by
  induction records with
  | nil =>
    intro s index written fuel hp hrun hfuel
    obtain ⟨rfl, rfl⟩ := hrun
    exact ⟨hp, fuel, hfuel, rfl⟩
  | cons record records ih =>
    intro s index written fuel hp hrun hfuel
    obtain ⟨v, hv, hrun⟩ := hrun
    have hlen := hrecords record List.mem_cons_self
    have hpos := m.cursorTable.recordBytes_pos
    rw [List.flatten_cons, List.append_assoc, List.length_append] at hfuel
    obtain ⟨fuel, rfl⟩ : ∃ k, fuel = k + 1 := ⟨fuel - 1, by omega⟩
    have hpv : ∀ r, m.protects r = v.management.protects r := by
      rw [State.writeRecord_management hv]
      exact hp
    obtain ⟨hpu, fuel', hrest, run⟩ := ih (fun x hx => hrecords x (List.mem_cons_of_mem _ hx)) v _ (written + 1) fuel hpv
      hrun (by omega)
    refine ⟨hpu, fuel', hrest, ?_⟩
    have wrote := s.writeRecord_withManagement { m with cursorIndex := index } record hp m.cursorTable index
    rw [hv] at wrote
    rw [List.flatten_cons, List.append_assoc, State.putBytes_accepted hlen _ _ wrote, List.length_cons,
      show written + (records.length + 1) = written + 1 + records.length by omega]
    exact run

/-- Settles O37. -/
theorem putWritesAtTheCursor : Obligations.PutWritesAtTheCursor := by
  intro seq tag args s h hl hf table n bytes m taken answered records rest u next hbytes hrecords hrun
  have hprot : ∀ r, m.protects r = taken.management.protects r := fun _ => rfl
  obtain ⟨hpu, fuel, hrest, run⟩ := State.putBytes_run m records rest u next hrecords taken s.management.cursorIndex 0
    bytes.length hprot hrun (by rw [hbytes])
  rw [← hbytes, Nat.zero_add] at run
  let placed : State := u.withManagement { m with cursorIndex := next }
  have put {code : ResultCode} {left : List Byte}
      (ho : (u.withManagement { m with cursorIndex := next }).putBytes records.length fuel rest =
        ⟨code, records.length, u.withManagement { m with cursorIndex := next, partialRecord := left }⟩) :
      exec (.put seq tag args) s = .next (answered u left next code records.length) := by
    refine exec_ready h rfl (fun _ => ⟨hl, hf⟩) ?_
    have outcome : taken.putBytes 0 bytes.length bytes = _ := run.trans ho
    have work : (s.requested seq putRequest).putWork tag args =
        (let o := taken.putBytes 0 bytes.length bytes
         let s' := if table = .plan then o.state.restartWalks else o.state
         s'.offerReply tag 0x05 o.result o.written s'.cursorReport) := rfl
    refine work.trans ?_
    rw [outcome]
    dsimp only
    rw [State.cursorReport_eq]
    have report (v : State) : (if table = .plan then v.restartWalks else v).management = v.management := by
      split
      · exact v.restartWalks_management
      · rfl
    rw [report]
    rfl
  refine ⟨fun hpart => put (State.putBytes_part (s := placed) hpart _ _), fun code hwhole hcode => put ?_⟩
  have split : rest = rest.take n ++ rest.drop n := (List.take_append_drop n rest).symm
  have hpos := m.cursorTable.recordBytes_pos
  have size : (rest.take n).length = n := List.length_take_of_le hwhole
  obtain ⟨fuel, rfl⟩ := Nat.exists_eq_add_one.mpr (Nat.lt_of_lt_of_le hpos (hwhole.trans hrest))
  have refused := u.writeRecord_withManagement { m with cursorIndex := next } (rest.take n) hpu table next
  rw [hcode] at refused
  rw [split]
  exact State.putBytes_refused (s := placed) size _ _ refused

/-! ### The writes of a FILL -/

/-- The end of a FILL, after a state whose management unit stands but for the next index (R146). -/
theorem State.endFill_eq (s : State) (job : FillJob) (r : ResultCode) (written : Nat) : s.endFill job r written =
    ({ s with management := { s.management with fill := none } }).offerReply job.tag 0x07 r (min written 255)
      [BitVec.ofNat 8 (written / 256), BitVec.ofNat 8 written, BitVec.ofNat 8 (s.management.fillNext / 256),
        BitVec.ofNat 8 s.management.fillNext] := by
  unfold State.endFill
  rw [natBytes_eq, natBytes_eq]
  rfl

theorem State.fillStep_refused {s : State} {job : FillJob} {code : ResultCode}
    (h : s.writeRecord job.table s.management.fillNext job.record = .error code) :
    s.fillStep job = s.endFill job code job.written := by
  unfold State.fillStep
  rw [h]

theorem State.fillStep_accepted {s u : State} {job : FillJob}
    (h : s.writeRecord job.table s.management.fillNext job.record = .ok u) :
    s.fillStep job = (if job.table = .plan then u.restartWalks else u).advanceFill job := by
  unfold State.fillStep
  rw [h]

/-- Settles O39. -/
theorem fillWritesGoOnOrEnd : Obligations.FillWritesGoOnOrEnd := by
  intro s
  refine ⟨fun hf => ?_, ?_⟩
  · show execFillWrite s = _
    unfold execFillWrite
    rw [hf]
  · intro job hf at_ next ended
    have step : exec .fillWrite s = .next (at_.fillStep job) := by
      show execFillWrite s = _
      unfold execFillWrite
      rw [hf]
      rfl
    refine ⟨fun code hcode => ?_, ?_⟩
    · rw [step, State.fillStep_refused hcode]
      exact congrArg _ (State.endFill_eq at_ job code job.written)
    · intro u hu walked
      have written : u.management = at_.management := State.writeRecord_management hu
      have management : walked.management = s.management := by
        show (if job.table = .plan then u.restartWalks else u).management = s.management
        split
        · exact u.restartWalks_management.trans written
        · exact written
      have advance : at_.fillStep job = walked.advanceFill job := State.fillStep_accepted hu
      rw [step, advance]
      refine ⟨fun hlast => congrArg _ ?_, fun hgo => congrArg _ ?_⟩
      · refine (if_pos (by rw [management]; exact hlast)).trans ?_
        rw [State.endFill_eq]
        simp only [State.modManagement, management]
        rfl
      · refine (if_neg (by rw [management]; exact Nat.not_le.mpr hgo)).trans ?_
        simp only [State.modManagement, management]
        rfl

end Sys2Proof.Machine

/-! PROOFS. FREEZE, RESUME and the LINK requests (chapters 6 and 7). -/

namespace Sys2Proof.Machine

/-! ### Re-evaluations -/

theorem State.counted_congr {s t : State} (hr : ∀ id, (t.route id).record = (s.route id).record)
    (hp : ∀ l, (t.port l).state = (s.port l).state ∧ (t.port l).plan = (s.port l).plan) (id : RouteId) :
    t.Counted id ↔ s.Counted id := by
  simp only [State.Counted, hr, (hp _).1, (hp _).2]

/-- A re-evaluation looks at the marks of the counted routes alone (R112). -/
theorem State.reevaluate_freeze_agree {s t : State} (hf : t.freeze = s.freeze)
    (hr : ∀ id, (t.route id).record = (s.route id).record)
    (hm : ∀ id, s.Counted id → (t.route id).settled = (s.route id).settled ∧ (t.route id).converged = (s.route id).converged)
    (hp : ∀ l, (t.port l).state = (s.port l).state ∧ (t.port l).plan = (s.port l).plan) :
    t.reevaluate.freeze = s.reevaluate.freeze := by
  have settled : t.allCounted Route.settled = s.allCounted Route.settled := by
    rw [Bool.eq_iff_iff, State.allCounted_iff, State.allCounted_iff]
    simp only [State.counted_congr hr hp]
    exact forall₂_congr fun id hc => by rw [(hm id hc).1]
  have converged : t.allCounted Route.converged = s.allCounted Route.converged := by
    rw [Bool.eq_iff_iff, State.allCounted_iff, State.allCounted_iff]
    simp only [State.counted_congr hr hp]
    exact forall₂_congr fun id hc => by rw [(hm id hc).2]
  unfold State.reevaluate
  simp only [settled, converged, hf]
  cases s.freeze.state with
  | run => exact hf
  | frozen => exact hf
  | freezing => dsimp only; split <;> simp [hf, State.endRamp]
  | resuming => dsimp only; split <;> simp [hf, State.endRamp]

/-- A second re-evaluation finds the ramp as the first left it. -/
theorem State.reevaluate_reevaluate (s : State) : s.reevaluate.reevaluate = s.reevaluate := by
  cases hf : s.freeze.state with
  | run => rw [State.reevaluate_at_rest (.inl hf), State.reevaluate_at_rest (.inl hf)]
  | frozen => rw [State.reevaluate_at_rest (.inr hf), State.reevaluate_at_rest (.inr hf)]
  | freezing =>
    by_cases h : ∀ id, s.Counted id → (s.route id).settled = true
    · rw [State.reevaluate_freezing_done hf h]
      exact State.reevaluate_at_rest (.inr rfl)
    · push Not at h
      simp only [ne_eq, Bool.not_eq_true] at h
      rw [State.reevaluate_freezing_waits hf h, State.reevaluate_freezing_waits hf h]
  | resuming =>
    by_cases h : ∀ id, s.Counted id → (s.route id).converged = true
    · rw [State.reevaluate_resuming_done hf h]
      exact State.reevaluate_at_rest (.inl rfl)
    · push Not at h
      simp only [ne_eq, Bool.not_eq_true] at h
      rw [State.reevaluate_resuming_waits hf h, State.reevaluate_resuming_waits hf h]

/-- A re-evaluation before a change of routes that no counted mark sees is taken up by the one after it. -/
theorem State.reevaluate_mapRoutes {s : State} {g : Route → Route} (hr : ∀ x, (g x).record = x.record)
    (hm : ∀ id, s.Counted id → (g (s.route id)).settled = (s.route id).settled
      ∧ (g (s.route id)).converged = (s.route id).converged) :
    (s.reevaluate.mapRoutes g).reevaluate = (s.mapRoutes g).reevaluate := by
  have freeze : (s.mapRoutes g).reevaluate.freeze = s.reevaluate.freeze := by
    refine State.reevaluate_freeze_agree rfl (fun id => ?_) (fun id hc => ?_) fun _ => ⟨rfl, rfl⟩
    · rw [State.mapRoutes_route, hr]
    · rw [State.mapRoutes_route]
      exact hm id hc
  have made : s.reevaluate.mapRoutes g = (s.mapRoutes g).reevaluate := by
    rw [State.reevaluate_eq (s.mapRoutes g), freeze, State.reevaluate_eq s]
    rfl
  rw [made, State.reevaluate_reevaluate]

/-! ### Answers after a re-evaluation -/

section
variable {u : State} (hr : (u.port .d).state = .running) (hq : (u.port .d).queue.length < 16) (tag code : Byte)
  (r : ResultCode)
include hr hq

theorem State.answer_joins : u.answer tag code r = u.modPort .d fun p =>
    { p with queue := p.queue ++ [.reply (plainReply tag code r.code u.now)] } :=
  State.offerReply_joins u tag code r 0 [] hr hq

/-- A REPLY that joins and a re-evaluation may come in either order. -/
theorem State.reevaluate_answer : u.reevaluate.answer tag code r = (u.answer tag code r).reevaluate := by
  have now : u.reevaluate.now = u.now := by rw [State.reevaluate_eq]
  rw [State.answer_joins (by rwa [State.reevaluate_port]) (by rwa [State.reevaluate_port]), State.answer_joins hr hq, now]
  exact State.reevaluate_modPort rfl rfl

end

theorem State.requested_port (s : State) (seq : Byte) (t : RequestTraits) (l : LinkId) :
    (s.requested seq t).port l = if l = .d then (s.port .d).took seq else s.port l := by cases l <;> rfl

section
variable {s : State} {seq : Byte} (h : s.readyFor seq)
include h

/-- The answer of a request that has changed a board link (R121). -/
theorem State.requested_setPort_answer {l : LinkId} (hl : l ≠ .d) (p : Port) (tag code : Byte) (r : ResultCode) :
    ((s.requested seq plainRequest).setPort l p).answer tag code r =
      (s.afterRequest seq (plainReply tag code r.code s.now)).setPort l p := by
  have port : ((s.requested seq plainRequest).setPort l p).port .d = (s.port .d).took seq :=
    State.setPort_port_ne _ _ (Ne.symm hl)
  rw [State.answer_joins (by rw [port]; exact h.1.1) (by rw [port]; exact h.2)]
  cases l with
  | d => exact absurd rfl hl
  | v => rfl
  | a => rfl
  | c => rfl

end

/-! ### LINK START and LINK STOP -/

theorem planIsEmpty_iff (p : Plan) : planIsEmpty p = true ↔ ∀ k : Fin 6, p[k.val].length = 0 := by
  rw [planIsEmpty, List.all_eq_not_any_not, Bool.not_eq_true', Bool.eq_false_iff, ne_eq, plan_any]
  simp

/-- Settles O42. -/
theorem linkStartAndStop : Obligations.LinkStartAndStop := by
  intro seq tag n extra s h answered
  refine ⟨fun hn => ⟨exec_link_unnamed h rfl hn, exec_link_unnamed h rfl hn⟩, fun l hn => ?_⟩
  have running : (s.port .d).state = .running := h.1.1
  have state : ((s.requested seq plainRequest).port l).state = (s.port l).state := by cases l <;> rfl
  have plan : ((s.requested seq plainRequest).port l).plan = (s.port l).plan := by cases l <;> rfl
  have startable : (s.port l).state ≠ .starting → (s.port l).state ≠ .running →
      ((s.requested seq plainRequest).port l).state.startable = true := fun hs hr => by
    rw [state]
    generalize (s.port l).state = st at hs hr
    cases st with
    | starting => exact absurd rfl hs
    | running => exact absurd rfl hr
    | _ => rfl
  refine ⟨fun hbad => ?_, fun hs hr hempty => ?_, fun hs hr ⟨k, hk⟩ => ?_, fun hl => ?_, fun hl hr => ?_, fun hl hr => ?_⟩
  · refine exec_link_named h rfl hn (if_pos ?_) (State.plainRequest_answer h tag 0x0C .linkState)
    rw [state]
    rcases hbad with hb | hb <;> rw [hb] <;> rfl
  · refine exec_link_named h rfl hn ((if_neg ?_).trans (if_pos ?_)) (State.plainRequest_answer h tag 0x0C .badValue)
    · rw [startable hs hr]
      decide
    · rw [plan]
      exact (planIsEmpty_iff _).mpr hempty
  · have board : l ≠ .d := fun hl => hr (hl ▸ running)
    have port : (s.requested seq plainRequest).port l = s.port l := by rw [State.requested_port, if_neg board]
    have started : (s.requested seq plainRequest).enterStarting l = (s.requested seq plainRequest).setPort l
        { s.port l with state := .starting, startTimer := 0, idleRun := false, fill := .absent } := by
      unfold State.enterStarting
      rw [State.leaveFor_not_running (by rwa [state]), State.modPort, State.setPort_setPort, State.setPort_port_same, port]
    refine exec_link_named h rfl hn (((if_neg ?_).trans (if_neg ?_)).trans (congrArg _ started))
      (State.requested_setPort_answer h board _ tag 0x0C .ok)
    · rw [startable hs hr]
      decide
    · rw [plan, planIsEmpty_iff]
      exact fun hall => hk (hall k)
  · exact exec_link_named h rfl hn (if_pos hl) (State.plainRequest_answer h tag 0x0C .linkState)
  · have port : (s.requested seq plainRequest).port l = s.port l := by rw [State.requested_port, if_neg hl]
    have other : ((s.requested seq plainRequest).setPort l ((s.port l).stopped .off)).port .d = (s.port .d).took seq :=
      State.setPort_port_ne _ _ (Ne.symm hl)
    refine exec_link_named h rfl hn (if_neg hl) ?_
    rw [State.leaveFor_running (by rwa [state]), if_neg hl, port,
      State.reevaluate_answer (by rw [other]; exact h.1.1) (by rw [other]; exact h.2)]
    exact congrArg State.reevaluate (State.requested_setPort_answer h hl _ tag 0x0C .ok)
  · have port : (s.requested seq plainRequest).port l = s.port l := by rw [State.requested_port, if_neg hl]
    refine exec_link_named h rfl hn (if_neg hl) ?_
    rw [State.leaveFor_not_running (by rwa [state]), port]
    exact State.requested_setPort_answer h hl _ tag 0x0C .ok

/-! ### FREEZE and RESUME -/

theorem purgeCueEvents_eq (q : List QueueRecord) : purgeCueEvents q = q.filter QueueRecord.isReply :=
  List.filter_congr fun x _ => by cases x <;> rfl

/-- Every queue purged as the freeze begins (R78, R106). -/
def State.freezeBegun (s : State) : State := ({ s with freeze := { state := .freezing, timer := some 0 } }).purgeQueues

theorem State.freezeBegun_port (s : State) (l : LinkId) :
    s.freezeBegun.port l = { s.port l with queue := (s.port l).queue.filter QueueRecord.isReply } := by
  rw [← purgeCueEvents_eq]
  exact State.purgeQueues_port _ l

theorem State.freezeBegun_eq (u : State) : u.freezeBegun =
    { u with ports := u.freezeBegun.ports, freeze := { state := .freezing, timer := some 0 } } := rfl

theorem State.enterFreezing_begins {s : State} (h : s.freeze.state = .run ∨ s.freeze.state = .resuming) :
    s.enterFreezing = s.freezeBegun.reevaluate := by
  unfold State.enterFreezing
  rcases h with h | h <;> rw [h] <;> rfl

theorem State.enterFreezing_stands {s : State} (h : s.freeze.state = .freezing ∨ s.freeze.state = .frozen) :
    s.enterFreezing = s := by
  unfold State.enterFreezing
  rcases h with h | h <;> rw [h]

/-- Every converged mark cleared as the resume begins (R107). -/
def State.resumeBegun (s : State) : State := ({ s with freeze := { state := .resuming, timer := some 0 } }).clearConverged

theorem State.enterResuming_begins {s : State} (h : s.freeze.state = .freezing ∨ s.freeze.state = .frozen) :
    s.enterResuming = s.resumeBegun.reevaluate := by
  unfold State.enterResuming
  rcases h with h | h <;> rw [h] <;> rfl

theorem State.enterResuming_stands {s : State} (h : s.freeze.state = .run ∨ s.freeze.state = .resuming) :
    s.enterResuming = s := by
  unfold State.enterResuming
  rcases h with h | h <;> rw [h]

theorem State.requested_counted (s : State) (seq : Byte) (t : RequestTraits) (id : RouteId) :
    (s.requested seq t).Counted id ↔ s.Counted id :=
  State.counted_congr (s := s) (t := s.requested seq t) (fun _ => rfl) (fun l => by cases l <;> exact ⟨rfl, rfl⟩) id

section
variable {u : State} (hr : (u.port .d).state = .running) (hq : (u.port .d).queue.length < 16) (tag : Byte)
include hr hq

/-- FREEZE's work and its reply (R78, R106, R112). -/
theorem State.freezeBegun_answer : ∃ t, u.freezeBegun.reevaluate.answer tag 0x0A .ok = t
    ∧ t = { u with ports := t.ports, freeze := t.freeze }
    ∧ (∀ l, t.port l = { u.port l with queue := (u.port l).queue.filter QueueRecord.isReply
        ++ if l = .d then [.reply (plainReply tag 0x0A 0 u.now)] else [] })
    ∧ ((∀ id, u.Counted id → (u.route id).settled = true) → t.freeze = { state := .frozen, timer := none })
    ∧ ((∃ id, u.Counted id ∧ (u.route id).settled = false) → t.freeze = { state := .freezing, timer := some 0 }) := by
  have begun := u.freezeBegun_port
  have rest := u.freezeBegun_eq
  generalize u.freezeBegun = v at begun rest ⊢
  have counted (id : RouteId) : v.Counted id ↔ u.Counted id :=
    State.counted_congr (s := u) (t := v) (fun id => by rw [rest]; rfl) (fun l => by rw [begun]; exact ⟨rfl, rfl⟩) id
  have route (id : RouteId) : v.route id = u.route id := by rw [rest]; rfl
  have freeze : v.freeze = { state := .freezing, timer := some 0 } := by rw [rest]
  have freezing : v.freeze.state = .freezing := by rw [freeze]
  have now : v.reevaluate.now = u.now := by rw [State.reevaluate_eq, rest]
  have short : ((u.port .d).queue.filter QueueRecord.isReply).length < 16 := (List.length_filter_le _ _).trans_lt hq
  refine ⟨_, State.answer_joins (by rw [State.reevaluate_port, begun]; exact hr)
    (by rw [State.reevaluate_port, begun]; exact short) tag 0x0A .ok, ?_, fun l => ?_, fun hall => ?_, fun hone => ?_⟩
  · rw [State.reevaluate_eq]
    generalize v.reevaluate.freeze = f
    rw [rest]
    rfl
  · rw [State.modPort_port, State.reevaluate_port, State.reevaluate_port, begun, begun, now]
    split
    · next hl => rw [hl]; rfl
    · rw [List.append_nil]
  · show v.reevaluate.freeze = _
    rw [State.reevaluate_freezing_done freezing fun id hc => by rw [route]; exact hall id ((counted id).mp hc)]
    rfl
  · obtain ⟨id, hc, hs⟩ := hone
    show v.reevaluate.freeze = _
    rw [State.reevaluate_freezing_waits freezing ⟨id, (counted id).mpr hc, by rw [route]; exact hs⟩, freeze]

/-- RESUME's work and its reply (R107, R112). -/
theorem State.resumeBegun_answer : ∃ t, u.resumeBegun.reevaluate.answer tag 0x0B .ok = t
    ∧ t = { u.answer tag 0x0B .ok with routes := t.routes, freeze := t.freeze }
    ∧ (∀ id, t.route id = { u.route id with converged := false })
    ∧ ((∀ id, ¬ u.Counted id) → t.freeze = { state := .run, timer := none })
    ∧ ((∃ id, u.Counted id) → t.freeze = { state := .resuming, timer := some 0 }) := by
  have route (id : RouteId) : u.resumeBegun.route id = { u.route id with converged := false } :=
    State.clearConverged_route _ id
  have counted (id : RouteId) : u.resumeBegun.Counted id ↔ u.Counted id :=
    State.counted_congr (s := u) (t := u.resumeBegun) (fun id => by rw [route]) (fun _ => ⟨rfl, rfl⟩) id
  have resuming : u.resumeBegun.freeze.state = .resuming := rfl
  have now : u.resumeBegun.reevaluate.now = u.now := by
    rw [State.reevaluate_eq]
    rfl
  refine ⟨_, State.answer_joins (by rw [State.reevaluate_port]; exact hr) (by rw [State.reevaluate_port]; exact hq) tag
    0x0B .ok, ?_, fun id => ?_, fun hnone => ?_, fun hone => ?_⟩
  · rw [State.answer_joins hr hq, now, State.reevaluate_eq]
    rfl
  · show u.resumeBegun.reevaluate.route id = _
    rw [State.reevaluate_eq]
    exact route id
  · show u.resumeBegun.reevaluate.freeze = _
    rw [State.reevaluate_resuming_done resuming fun id hc => absurd ((counted id).mp hc) (hnone id)]
    rfl
  · obtain ⟨id, hc⟩ := hone
    show u.resumeBegun.reevaluate.freeze = _
    rw [State.reevaluate_resuming_waits resuming ⟨id, (counted id).mpr hc, by rw [route]⟩]
    rfl

end

/-- Settles O41. -/
theorem freezeAndResumeStartTheirRamps : Obligations.FreezeAndResumeStartTheirRamps := by
  refine ⟨fun seq tag args s h => ?_, fun seq tag args s h => ?_⟩
  · intro reply replies
    refine ⟨fun hf => exec_unguarded h rfl rfl ?_, fun hf => ?_⟩
    · rw [State.enterFreezing_stands (s := s.requested seq plainRequest) hf]
      exact State.plainRequest_answer h tag 0x0A .ok
    · have counted := s.requested_counted seq plainRequest
      obtain ⟨t, ht, rest, port, done, waits⟩ := State.freezeBegun_answer (u := s.requested seq plainRequest) h.1.1 h.2 tag
      refine ⟨t, exec_unguarded h rfl rfl ?_, ?_, ?_, fun l hl => ?_, fun hall => done fun id hc => ?_,
        fun ⟨id, hc, hs⟩ => waits ⟨id, (counted id).mpr hc, hs⟩⟩
      · rw [State.enterFreezing_begins (s := s.requested seq plainRequest) hf]
        exact ht
      · generalize t.ports = ps, t.freeze = f at rest ⊢
        rw [rest]
        rfl
      · exact port .d
      · rw [port, if_neg hl, List.append_nil, State.requested_port, if_neg hl]
      · exact hall id ((counted id).mp hc)
  · intro reply
    refine ⟨fun hf => exec_unguarded h rfl rfl ?_, fun hf => ?_⟩
    · rw [State.enterResuming_stands (s := s.requested seq plainRequest) hf]
      exact State.plainRequest_answer h tag 0x0B .ok
    · have counted := s.requested_counted seq plainRequest
      obtain ⟨t, ht, rest, route, done, waits⟩ := State.resumeBegun_answer (u := s.requested seq plainRequest) h.1.1 h.2 tag
      refine ⟨t, exec_unguarded h rfl rfl ?_, ?_, route, fun hnone => done fun id hc => hnone id ((counted id).mp hc),
        fun ⟨id, hc⟩ => waits ⟨id, (counted id).mpr hc⟩⟩
      · rw [State.enterResuming_begins (s := s.requested seq plainRequest) hf]
        exact ht
      · rw [State.plainRequest_answer h tag 0x0B .ok] at rest
        exact rest

/-! ### LINK RESET -/

theorem Route.afterLinkReset_record (l : LinkId) (x : Route) : (x.afterLinkReset l).record = x.record := by
  unfold Route.afterLinkReset
  split
  · split <;> rfl
  · rfl

theorem Route.afterLinkReset_field {l : LinkId} {x : Route} (hl : x.record.link = l) (hk : x.record.kind = .field) :
    x.afterLinkReset l = x.restarted := by
  rw [Route.afterLinkReset, if_pos hl, ← Route.restarted_eq x hk, hk]

theorem Route.afterLinkReset_event {l : LinkId} {x : Route} (hl : x.record.link = l) (hk : x.record.kind = .event) :
    x.afterLinkReset l = { x with armed := true } := by
  rw [Route.afterLinkReset, if_pos hl, hk]

theorem Route.afterLinkReset_other {l : LinkId} {x : Route} (h : x.record.link ≠ l ∨ x.record.kind = .off) :
    x.afterLinkReset l = x := by
  unfold Route.afterLinkReset
  split
  · next hl => rw [h.resolve_left (not_not_intro hl)]
  · rfl

/-- A port after a link reset (R126; log entry 20). -/
def Port.reset (p : Port) (l : LinkId) : Port :=
  { (if l = .d then { p with startTimer := 0, idleRun := false, fill := .absent } else p) with
    state := if l = .d then .starting else .off
    receiveSeq := none, transmitSeq := 0, walk := none, slotTimer := none, flags := .clear, eventCount := 0
    snapshot := none, line := none, queue := [] }

theorem Port.reset_state (p : Port) (l : LinkId) : (p.reset l).state = if l = .d then .starting else .off := rfl

theorem Port.reset_plan (p : Port) (l : LinkId) : (p.reset l).plan = p.plan := by
  unfold Port.reset
  by_cases hl : l = .d
  · rw [if_pos hl]
  · rw [if_neg hl]

/-- The part as a link reset leaves it before the re-evaluation: Link D's open batch torn, the port and the routes reset
(R65, R126). -/
def State.linkResetBegun (u : State) (l : LinkId) : State :=
  ((if l = .d then u.tearBatch else u).setPort l ((u.port l).reset l)).mapRoutes (Route.afterLinkReset l)

section
variable (u : State) (l : LinkId)

theorem State.linkResetBegun_route (id : RouteId) : (u.linkResetBegun l).route id = (u.route id).afterLinkReset l := by
  unfold State.linkResetBegun
  rw [State.mapRoutes_route]
  show ((if l = .d then u.tearBatch else u).route id).afterLinkReset l = _
  split
  · rw [State.tearBatch_route]
  · rfl

theorem State.linkResetBegun_port (k : LinkId) :
    (u.linkResetBegun l).port k = if k = l then (u.port l).reset l else u.port k := by
  unfold State.linkResetBegun
  rw [State.mapRoutes_port, State.setPort_port]
  congr 1
  split
  · rw [State.tearBatch_port]
  · rfl

theorem State.linkResetBegun_cue (c : CueId) : (u.linkResetBegun l).cue c =
    if l = .d ∧ u.batch.isOpen = true then { u.cue c with pending := none } else u.cue c := by
  show (if l = .d then u.tearBatch else u).cue c = _
  by_cases hl : l = .d
  · simp only [hl, if_true, true_and]
    exact u.tearBatch_cue c
  · rw [if_neg hl, if_neg (fun h => hl h.1)]

theorem State.linkResetBegun_rest : u.linkResetBegun l = { u with
    cues := (u.linkResetBegun l).cues, routes := (u.linkResetBegun l).routes, ports := (u.linkResetBegun l).ports
    batch := if l = .d ∧ u.batch.isOpen = true then { u.batch with isOpen := false, timer := none } else u.batch
    flags := { u.flags with stepTorn := u.flags.stepTorn || (decide (l = .d) && u.batch.isOpen) } } := by
  unfold State.linkResetBegun
  by_cases hl : l = .d
  · cases hb : u.batch.isOpen with
    | true => simp [hl, State.tearBatch_open u hb]; rfl
    | false => simp [hl, State.tearBatch_closed u hb]; rfl
  · simp [hl]
    rfl

end

/-- A link reset, with one re-evaluation: the second takes up what the first would find, as none of the link's routes is
counted any more (R109, R112, R126). -/
theorem State.linkReset_eq {u : State} {l : LinkId} (hd : l = .d → (u.port l).state = .running) : u.linkReset l =
    (u.linkResetBegun l).reevaluate := by
  have uncounted {v : State} (hv : (v.port l).state ≠ .running) (id : RouteId) (hc : v.Counted id) :
      ((v.route id).afterLinkReset l).settled = (v.route id).settled
        ∧ ((v.route id).afterLinkReset l).converged = (v.route id).converged := by
    obtain ⟨_, hrun, _⟩ := hc
    have other : (v.route id).record.link ≠ l := fun hl => hv (by rw [← hl]; exact hrun)
    rw [Route.afterLinkReset_other (.inl other)]
    exact ⟨rfl, rfl⟩
  have once {w : State} {p : Port} (hp : p.state ≠ .running) (hs : ((u.port l).reset l).state = p.state)
      (hplan : ((u.port l).reset l).plan = p.plan) :
      (((w.setPort l p).reevaluate.modPort l fun _ => (u.port l).reset l).mapRoutes (Route.afterLinkReset l)).reevaluate =
        ((w.setPort l ((u.port l).reset l)).mapRoutes (Route.afterLinkReset l)).reevaluate := by
    have port : (w.setPort l p).port l = p := State.setPort_port_same _ _ _
    have merged : (w.setPort l p).modPort l (fun _ => (u.port l).reset l) = w.setPort l ((u.port l).reset l) :=
      State.setPort_setPort _ _ _ _
    have away : ((w.setPort l ((u.port l).reset l)).port l).state ≠ .running := by
      rw [State.setPort_port_same, hs]
      exact hp
    rw [State.reevaluate_modPort (by rw [port]; exact hs) (by rw [port]; exact hplan), merged,
      State.reevaluate_mapRoutes (Route.afterLinkReset_record l) (uncounted away)]
  have leftPort : ∀ st, (u.port l).state = .running → (u.leaveFor l st).port l = (u.port l).stopped st := fun st hr => by
    rw [State.leaveFor_port, if_pos rfl, if_pos hr]
  by_cases hl : l = .d
  · have made : (u.enterStarting l).modPort l Port.afterLinkReset =
        (u.leaveFor l .starting).modPort l fun _ => (u.port l).reset l := by
      unfold State.enterStarting
      rw [State.modPort, State.modPort_port_same, leftPort _ (hd hl), State.modPort, State.setPort_setPort, Port.reset, hl]
      rfl
    unfold State.linkReset State.linkResetBegun
    rw [if_pos hl, if_pos hl]
    dsimp only
    rw [made, State.leaveFor_running (hd hl), if_pos hl]
    exact once (p := (u.port l).stopped .starting) (show LinkState.starting ≠ .running by decide) (if_pos hl) (Port.reset_plan _ _)
  · have away : stateAfterLinkReset l = .off := if_neg hl
    have made {q : Port} (hq : (u.leaveFor l .off).port l = q) (hp : q.afterLinkReset = (u.port l).reset l) :
        (u.leaveFor l .off).modPort l Port.afterLinkReset =
          (u.leaveFor l .off).modPort l fun _ => (u.port l).reset l := by
      rw [State.modPort, hq, hp]
      rfl
    have off : (u.port l).reset l = ((u.port l).stopped .off).afterLinkReset := by
      rw [Port.reset, if_neg hl, if_neg hl]
      rfl
    unfold State.linkReset State.linkResetBegun
    rw [if_neg hl, if_neg hl, away]
    dsimp only
    by_cases hr : (u.port l).state = .running
    · rw [made (leftPort _ hr) off.symm, State.leaveFor_running hr, if_neg hl]
      exact once (p := (u.port l).stopped .off) (show LinkState.off ≠ .running by decide) (if_neg hl) (Port.reset_plan _ _)
    · have port : (u.leaveFor l .off).port l = { u.port l with state := .off } := by
        rw [State.leaveFor_port, if_pos rfl, if_neg hr]
      rw [made port off.symm, State.leaveFor_not_running hr]
      exact congrArg (fun v : State => (v.mapRoutes (Route.afterLinkReset l)).reevaluate) (State.setPort_setPort _ _ _ _)

/-- The answer of a link reset: lost on Link D, which stands in STARTING, and else at the tail of its queue (R126). -/
theorem State.linkResetBegun_answer {u : State} (hr : (u.port .d).state = .running)
    (hq : (u.port .d).queue.length < 16) (l : LinkId) (tag : Byte) :
    ∃ t, (u.linkResetBegun l).reevaluate.answer tag 0x0C .ok = t
      ∧ t = { u.linkResetBegun l with
          ports := t.ports, freeze := (u.linkResetBegun l).reevaluate.freeze
          flags := { (u.linkResetBegun l).flags with
            replyLost := (u.linkResetBegun l).flags.replyLost || decide (l = .d) } }
      ∧ t.port l = (u.port l).reset l
      ∧ ∀ k, k ≠ l → t.port k = { u.port k with queue := (u.port k).queue
          ++ if k = .d then [.reply (plainReply tag 0x0C 0 u.now)] else [] } := by
  have port := u.linkResetBegun_port l
  have rest := u.linkResetBegun_rest l
  generalize u.linkResetBegun l = v at port rest ⊢
  have now : v.reevaluate.now = u.now := by rw [State.reevaluate_eq, rest]
  by_cases hl : l = .d
  · have lost : v.reevaluate.answer tag 0x0C .ok =
        { v.reevaluate with flags := { v.reevaluate.flags with replyLost := true } } := by
      refine State.offerReply_lost _ _ _ _ _ _ (.inl ?_)
      rw [State.reevaluate_port, port, if_pos hl.symm, Port.reset_state, if_pos hl]
      decide
    refine ⟨_, lost, ?_, ?_, fun k hk => ?_⟩
    · rw [decide_eq_true hl, Bool.or_true, State.reevaluate_eq]
    · exact (v.reevaluate_port l).trans ((port l).trans (if_pos rfl))
    · rw [if_neg (hl ▸ hk), List.append_nil]
      exact (v.reevaluate_port k).trans ((port k).trans (if_neg hk))
  · have portD : v.port .d = u.port .d := (port .d).trans (if_neg (Ne.symm hl))
    refine ⟨_, State.answer_joins (by rw [State.reevaluate_port, portD]; exact hr)
      (by rw [State.reevaluate_port, portD]; exact hq) tag 0x0C .ok, ?_, ?_, fun k hk => ?_⟩
    · rw [decide_eq_false hl, Bool.or_false, State.reevaluate_eq]
      rfl
    · rw [State.modPort_port, if_neg hl, State.reevaluate_port, port, if_pos rfl]
    · rw [State.modPort_port, State.reevaluate_port, State.reevaluate_port, portD, port, if_neg hk, now]
      split
      · next hd => rw [hd]; rfl
      · rw [List.append_nil]

/-- Settles O43. -/
theorem linkResetStartsTheLinkAfresh : Obligations.LinkResetStartsTheLinkAfresh := by
  intro seq tag n extra s h
  refine ⟨fun hn => exec_link_unnamed h rfl hn, fun l hn => ?_⟩
  have uport := s.requested_port seq plainRequest
  have running : ((s.requested seq plainRequest).port .d).state = .running := h.1.1
  have route := (s.requested seq plainRequest).linkResetBegun_route l
  have cue := (s.requested seq plainRequest).linkResetBegun_cue l
  have begun := (s.requested seq plainRequest).linkResetBegun_rest l
  have begunPort := (s.requested seq plainRequest).linkResetBegun_port l
  have reset := State.linkReset_eq (u := s.requested seq plainRequest) (l := l) fun hl => hl ▸ running
  obtain ⟨t, ht, rest, here, there⟩ := State.linkResetBegun_answer running h.2 l tag
  rw [← reset] at ht
  generalize (s.requested seq plainRequest).linkResetBegun l = v at rest begun route cue begunPort
  have troute (id : RouteId) : t.route id = (s.route id).afterLinkReset l := by
    rw [rest]
    exact route id
  refine ⟨t, exec_link_named h rfl hn rfl ht, fun k hk hd => ?_, fun hl => ?_, ?_, fun id hl hk => ?_, fun id hl hk => ?_,
    fun id ho => ?_, fun c => ?_, ?_, ?_⟩
  · rw [there k hk, if_neg hd, List.append_nil, uport, if_neg hd]
  · exact there .d (Ne.symm hl)
  · rw [here, uport]
    by_cases hl : l = .d
    · subst hl
      rfl
    · rw [if_neg hl, if_neg hl, if_neg hl, Port.reset, if_neg hl, if_neg hl]
      rfl
  · rw [troute, Route.afterLinkReset_field hl hk]
  · rw [troute, Route.afterLinkReset_event hl hk]
  · rw [troute, Route.afterLinkReset_other ho]
  · rw [rest]
    exact cue c
  · have cues : t.cues = v.cues := by rw [rest]
    have routes : t.routes = v.routes := by rw [rest]
    have freeze : t.freeze = v.reevaluate.freeze := by rw [rest]
    rw [cues, routes, freeze]
    generalize t.ports = ps at rest ⊢
    rw [rest]
    generalize v.reevaluate.freeze = f
    generalize v.cues = cs, v.routes = rs at begun ⊢
    rw [begun]
    rfl
  · have freeze : v.freeze = s.freeze := by rw [begun]; rfl
    have tfreeze : t.freeze = v.reevaluate.freeze := by rw [rest]
    have vroute (id : RouteId) : v.route id = t.route id := by rw [rest]; rfl
    have tport (k : LinkId) : (t.port k).state = (v.port k).state ∧ (t.port k).plan = (v.port k).plan := by
      rw [begunPort]
      split
      · next hk => rw [hk, here]; exact ⟨rfl, rfl⟩
      · next hk => rw [there k hk]; exact ⟨rfl, rfl⟩
    rw [tfreeze]
    exact State.reevaluate_freeze_agree (s := { t with freeze := s.freeze }) (t := v) freeze
      (fun id => congrArg Route.record (vroute id)) (fun id _ => by rw [vroute]; exact ⟨rfl, rfl⟩)
      fun k => ⟨(tport k).1.symm, (tport k).2.symm⟩

end Sys2Proof.Machine

/-! PROOFS. The bytes of the management records (R135, R136). -/

namespace Sys2Proof.Machine

/-! ### Strings as their bytes -/

theorem take_eq_bytes {bs : List Byte} {n : Nat} (h : n ≤ bs.length) : bs.take n = (List.range n).map (byteAt bs) := by
  refine List.ext_getElem (by simp [h]) fun i hi _ => ?_
  have hlt : i < bs.length := by
    rw [List.length_take] at hi
    omega
  simp [byteAt, List.getD_eq_getElem?_getD, hlt]

theorem wordBytes_wordAt (bs : List Byte) (i : Nat) : wordBytes (wordAt bs i) = [byteAt bs i, byteAt bs (i + 1)] := by
  rw [wordAt, wordBytes, Word.hi_append, Word.lo_append]

/-! ### CUE records -/

/-- The header byte of a CUE record: class, four unnamed bits, owner code (R135). -/
theorem cueHeader_bits : ∀ (cls : Bool) (owner : BitVec 3),
    (BitVec.ofBool cls ++ (0 : BitVec 4) ++ owner : Byte).getLsbD 7 = cls
      ∧ (BitVec.ofBool cls ++ (0 : BitVec 4) ++ owner : Byte).extractLsb' 3 4 = 0
      ∧ (BitVec.ofBool cls ++ (0 : BitVec 4) ++ owner : Byte).extractLsb' 0 3 = owner := by decide

/-- A header byte without its unnamed bits (log entry 21). -/
theorem cueHeader_masked : ∀ b : Byte,
    (BitVec.ofBool (b.getLsbD 7) ++ (0 : BitVec 4) ++ b.extractLsb' 0 3 : Byte) = b &&& 0x87 := by decide

/-- The first status byte of a CUE record: three unnamed bits, override, pending, state (R20). -/
theorem cueStatus_bits : ∀ (override pending : Bool) (state : BitVec 3),
    ((0 : BitVec 3) ++ BitVec.ofBool override ++ BitVec.ofBool pending ++ state : Byte).extractLsb' 0 3 = state
      ∧ ((0 : BitVec 3) ++ BitVec.ofBool override ++ BitVec.ofBool pending ++ state : Byte).getLsbD 3 = pending
      ∧ ((0 : BitVec 3) ++ BitVec.ofBool override ++ BitVec.ofBool pending ++ state : Byte).getLsbD 4 = override
      ∧ ((0 : BitVec 3) ++ BitVec.ofBool override ++ BitVec.ofBool pending ++ state : Byte).extractLsb' 5 3 = 0 := by
  decide

theorem ownerOfCode_ownerCode (o : Option LinkId) : ownerOfCode (ownerCode o) = some o := by
  cases o with
  | none => rfl
  | some l => cases l <;> rfl

theorem ownerCode_of_ofCode {x : BitVec 3} {o : Option LinkId} (h : ownerOfCode x = some o) : ownerCode o = x := by
  have all : ∀ x : BitVec 3, (ownerOfCode x).map ownerCode = (ownerOfCode x).map fun _ => x := by decide
  have hx := all x
  rw [h] at hx
  exact Option.some.inj hx

theorem CueClass.ofBit_bit (c : CueClass) : CueClass.ofBit c.bit = c := by cases c <;> rfl

theorem CueClass.bit_ofBit (b : Bool) : (CueClass.ofBit b).bit = b := by cases b <;> rfl

theorem CueEntry.toBytes_header (e : CueEntry) : byteAt e.toBytes 0 =
    (BitVec.ofBool e.config.cls.bit ++ (0 : BitVec 4) ++ ownerCode e.config.owner : Byte) := rfl

theorem CueConfig.ofBytes_toBytes (e : CueEntry) : CueConfig.ofBytes e.toBytes = some e.config := by
  obtain ⟨cls, -, owner⟩ := cueHeader_bits e.config.cls.bit (ownerCode e.config.owner)
  have neutral : wordAt e.toBytes 1 = e.config.neutral := wordAt_of_bytes rfl rfl
  have fresh : wordAt e.toBytes 3 = e.config.freshLimit := wordAt_of_bytes rfl rfl
  have hold : wordAt e.toBytes 5 = e.config.holdLimit := wordAt_of_bytes rfl rfl
  have fade : wordAt e.toBytes 7 = e.config.fadeStep := wordAt_of_bytes rfl rfl
  rw [CueConfig.ofBytes, CueEntry.toBytes_header, cls, owner, ownerOfCode_ownerCode, neutral, fresh, hold, fade,
    CueClass.ofBit_bit]
  rfl

theorem CueConfig.toBytes_ofBytes {bs : List Byte} {c : CueConfig} (h : CueConfig.ofBytes bs = some c)
    (hlen : 9 ≤ bs.length) : c.toBytes = ((byteAt bs 0) &&& 0x87) :: (bs.take 9).drop 1 := by
  obtain ⟨owner, howner, rfl⟩ := Option.map_eq_some_iff.mp h
  rw [take_eq_bytes hlen, CueConfig.toBytes, CueClass.bit_ofBit, ownerCode_of_ofCode howner, cueHeader_masked,
    wordBytes_wordAt, wordBytes_wordAt, wordBytes_wordAt, wordBytes_wordAt]
  rfl

/-! ### ROUTE records -/

/-- The first byte of a ROUTE record: kind, combine, and four flags (R135). -/
theorem routeHeader_bits : ∀ (kind combine : BitVec 2) (x y z w : Bool),
    let b : Byte := kind ++ combine ++ BitVec.ofBool x ++ BitVec.ofBool y ++ BitVec.ofBool z ++ BitVec.ofBool w
    b.extractLsb' 6 2 = kind ∧ b.extractLsb' 4 2 = combine ∧ b.getLsbD 3 = x ∧ b.getLsbD 2 = y ∧ b.getLsbD 1 = z
      ∧ b.getLsbD 0 = w := by decide

theorem routeHeader_whole : ∀ b : Byte, (b.extractLsb' 6 2 ++ b.extractLsb' 4 2 ++ BitVec.ofBool (b.getLsbD 3)
    ++ BitVec.ofBool (b.getLsbD 2) ++ BitVec.ofBool (b.getLsbD 1) ++ BitVec.ofBool (b.getLsbD 0) : Byte) = b := by decide

/-- The second byte of a ROUTE record: link, template, shift (R135). -/
theorem routePlace_bits : ∀ (link template : BitVec 2) (shift : BitVec 4),
    (link ++ template ++ shift : Byte).extractLsb' 6 2 = link
      ∧ (link ++ template ++ shift : Byte).extractLsb' 4 2 = template
      ∧ (link ++ template ++ shift : Byte).extractLsb' 0 4 = shift := by decide

theorem routePlace_whole : ∀ b : Byte, (b.extractLsb' 6 2 ++ b.extractLsb' 4 2 ++ b.extractLsb' 0 4 : Byte) = b := by
  decide

theorem RouteKind.ofCode_code (k : RouteKind) : RouteKind.ofCode k.code = some k := by cases k <;> rfl

theorem RouteKind.code_of_ofCode {x : BitVec 2} {k : RouteKind} (h : RouteKind.ofCode x = some k) : k.code = x := by
  have all : ∀ x : BitVec 2, (RouteKind.ofCode x).map RouteKind.code = (RouteKind.ofCode x).map fun _ => x := by decide
  have hx := all x
  rw [h] at hx
  exact Option.some.inj hx

theorem Combine.ofCode_code (c : Combine) : Combine.ofCode c.code = c := by cases c <;> rfl

theorem Combine.code_ofCode : ∀ x : BitVec 2, (Combine.ofCode x).code = x := by decide

theorem Direction.ofBit_bit (d : Direction) : Direction.ofBit d.bit = d := by cases d <;> rfl

theorem Direction.bit_ofBit (b : Bool) : (Direction.ofBit b).bit = b := by cases b <;> rfl

theorem linkOfBits_linkBits (l : LinkId) : linkOfBits (linkBits l) = l := by cases l <;> rfl

theorem linkBits_linkOfBits : ∀ x : BitVec 2, linkBits (linkOfBits x) = x := by decide

/-- The fields of a ROUTE record at their places in its bytes (R135). -/
structure RouteRecord.LaidOut (r : RouteRecord) (bs : List Byte) : Prop where
  kind : (byteAt bs 0).extractLsb' 6 2 = r.kind.code
  combine : (byteAt bs 0).extractLsb' 4 2 = r.combine.code
  substitutePresent : (byteAt bs 0).getLsbD 3 = r.substitutePresent
  direction : (byteAt bs 0).getLsbD 2 = r.direction.bit
  receiverAddress : (byteAt bs 0).getLsbD 1 = r.receiverAddress
  sourceBPresent : (byteAt bs 0).getLsbD 0 = r.sourceBPresent
  link : (byteAt bs 1).extractLsb' 6 2 = linkBits r.link
  template : (byteAt bs 1).extractLsb' 4 2 = r.template
  shift : (byteAt bs 1).extractLsb' 0 4 = r.shift
  bytes : byteAt bs 2 = r.position ∧ byteAt bs 3 = r.sourceA ∧ byteAt bs 4 = r.sourceB ∧ byteAt bs 5 = r.eventClass
  words : wordAt bs 6 = r.substitute ∧ wordAt bs 8 = r.gain ∧ wordAt bs 10 = r.deadband ∧ wordAt bs 12 = r.bias
    ∧ wordAt bs 14 = r.lo ∧ wordAt bs 16 = r.hi ∧ wordAt bs 18 = r.slew ∧ wordAt bs 20 = r.freezeSlew
    ∧ wordAt bs 22 = r.neutral ∧ wordAt bs 24 = r.careMask ∧ wordAt bs 26 = r.threshold ∧ wordAt bs 28 = r.hysteresis

/-- A string of words holds the word `k` at place `2 * k`. -/
theorem wordAt_flatMap (ws : List Word) {k : Nat} (h : k < ws.length) : wordAt (ws.flatMap wordBytes) (2 * k) = ws[k] := by
  induction ws generalizing k with
  | nil => exact absurd h (Nat.not_lt_zero k)
  | cons w ws ih =>
    cases k with
    | zero => exact Word.hi_append_lo w
    | succ k => exact ih (Nat.lt_of_succ_lt_succ h)

/-- The twelve words of a ROUTE record, from byte 6 on. -/
def RouteRecord.words (r : RouteRecord) : List Word :=
  [r.substitute, r.gain, r.deadband, r.bias, r.lo, r.hi, r.slew, r.freezeSlew, r.neutral, r.careMask, r.threshold,
    r.hysteresis]

theorem RouteRecord.wordAt_toBytes (r : RouteRecord) {k : Nat} (h : k < 12) :
    wordAt r.toBytes (2 * k + 6) = r.words[k] := wordAt_flatMap r.words h

theorem RouteRecord.laidOut (r : RouteRecord) : r.LaidOut r.toBytes := by
  obtain ⟨kind, combine, substitute, direction, address, source⟩ := routeHeader_bits r.kind.code r.combine.code
    r.substitutePresent r.direction.bit r.receiverAddress r.sourceBPresent
  obtain ⟨link, template, shift⟩ := routePlace_bits (linkBits r.link) r.template r.shift
  refine ⟨kind, combine, substitute, direction, address, source, link, template, shift, ⟨rfl, rfl, rfl, rfl⟩, ?_⟩
  have word {k : Nat} (h : k < 12) := r.wordAt_toBytes h
  exact ⟨word (k := 0) (by decide), word (k := 1) (by decide), word (k := 2) (by decide), word (k := 3) (by decide),
    word (k := 4) (by decide), word (k := 5) (by decide), word (k := 6) (by decide), word (k := 7) (by decide),
    word (k := 8) (by decide), word (k := 9) (by decide), word (k := 10) (by decide), word (k := 11) (by decide)⟩

theorem RouteRecord.ofBytes_toBytes (r : RouteRecord) : RouteRecord.ofBytes r.toBytes = some r := by
  have out := r.laidOut
  obtain ⟨b2, b3, b4, b5⟩ := out.bytes
  obtain ⟨w6, w8, w10, w12, w14, w16, w18, w20, w22, w24, w26, w28⟩ := out.words
  rw [RouteRecord.ofBytes, out.kind, RouteKind.ofCode_code, out.combine, Combine.ofCode_code, out.substitutePresent,
    out.direction, Direction.ofBit_bit, out.receiverAddress, out.sourceBPresent, out.link, linkOfBits_linkBits,
    out.template, out.shift, b2, b3, b4, b5, w6, w8, w10, w12, w14, w16, w18, w20, w22, w24, w26, w28]
  rfl

theorem RouteRecord.toBytes_ofBytes {bs : List Byte} {r : RouteRecord} (h : RouteRecord.ofBytes bs = some r)
    (hlen : bs.length = 30) : r.toBytes = bs := by
  obtain ⟨kind, hkind, rfl⟩ := Option.map_eq_some_iff.mp h
  have whole : bs = (List.range 30).map (byteAt bs) := by
    rw [← take_eq_bytes hlen.ge, ← hlen, List.take_length]
  rw [RouteRecord.toBytes, RouteKind.code_of_ofCode hkind, Combine.code_ofCode, Direction.bit_ofBit, routeHeader_whole,
    linkBits_linkOfBits, routePlace_whole]
  simp only [wordBytes_wordAt]
  exact whole.symm

/-! ### TEMPLATE, PLAN, LINK and GLOBAL records -/

/-- The bits of three bytes, most significant first. -/
theorem getMsbD_threeBytes (bs : List Byte) {i : Nat} (h : i < 24) :
    (byteAt bs 4 ++ byteAt bs 5 ++ byteAt bs 6 : BitVec 24).getMsbD i = (byteAt bs (4 + i / 8)).getLsbD (7 - i % 8) := by
  have bit (b : Byte) {j : Nat} (hj : j < 8) : b.getMsbD j = b.getLsbD (7 - j) := by
    simp [BitVec.getMsbD, hj]
  have split : (byteAt bs 4 ++ byteAt bs 5 ++ byteAt bs 6 : BitVec 24).getMsbD i =
      if 16 ≤ i then (byteAt bs 6).getMsbD (i - 16) else (byteAt bs 4 ++ byteAt bs 5 : BitVec 16).getMsbD i :=
    BitVec.getMsbD_append
  have split' : (byteAt bs 4 ++ byteAt bs 5 : BitVec 16).getMsbD i =
      if 8 ≤ i then (byteAt bs 5).getMsbD (i - 8) else (byteAt bs 4).getMsbD i := BitVec.getMsbD_append
  rw [split, split']
  by_cases h1 : 16 ≤ i
  · rw [if_pos h1, bit _ (by omega), show i / 8 = 2 by omega, show i % 8 = i - 16 by omega]
  · rw [if_neg h1]
    by_cases h2 : 8 ≤ i
    · rw [if_pos h2, bit _ (by omega), show i / 8 = 1 by omega, show i % 8 = i - 8 by omega]
    · rw [if_neg h2, bit _ (by omega), show i / 8 = 0 by omega, show i % 8 = i by omega]

theorem threeBytes_eq (w : BitVec 24) : (w.extractLsb' 16 8 ++ w.extractLsb' 8 8 ++ w.extractLsb' 0 8 : BitVec 24) = w := by
  ext i hi
  simp only [BitVec.getElem_append, BitVec.getElem_extractLsb']
  split
  · simp [BitVec.getLsbD_eq_getElem hi]
  · split
    · rw [show 8 + (i - 8) = i by omega, BitVec.getLsbD_eq_getElem hi]
    · rw [show 16 + (i - 8 - 8) = i by omega, BitVec.getLsbD_eq_getElem hi]

theorem byteOfBit_getLsbD : ∀ b : Bool, (byteOfBit b).getLsbD 0 = b := by decide

theorem Template.ofBytes_layout (bs : List Byte) {i : Nat} (h : i < 24) :
    (Template.ofBytes bs).isWide i = (byteAt bs (4 + i / 8)).getLsbD (7 - i % 8) := getMsbD_threeBytes bs h

theorem Template.ofBytes_toBytes {t : Template} (h : t.split ≠ some 0) : Template.ofBytes t.toBytes = t := by
  have split : (if t.split.getD 0 = 0 then none else some (t.split.getD 0)) = t.split := by
    cases hs : t.split with
    | none => rfl
    | some k => exact if_neg fun (hk : k = 0) => h (by rw [hs, hk])
  have made : Template.ofBytes t.toBytes =
      { receiverAddress := (byteOfBit t.receiverAddress).getLsbD 0, fieldCount := t.fieldCount
        split := if t.split.getD 0 = 0 then none else some (t.split.getD 0)
        tailAddress := (byteOfBit t.tailAddress).getLsbD 0
        wide := t.wide.extractLsb' 16 8 ++ t.wide.extractLsb' 8 8 ++ t.wide.extractLsb' 0 8 } := rfl
  rw [made, split, threeBytes_eq, byteOfBit_getLsbD, byteOfBit_getLsbD]

theorem Template.toBytes_isWide (t : Template) {i : Nat} (h : i < 24) :
    (byteAt t.toBytes (4 + i / 8)).getLsbD (7 - i % 8) = t.isWide i := by
  rw [← getMsbD_threeBytes t.toBytes h]
  exact congrArg (fun w : BitVec 24 => w.getMsbD i) (threeBytes_eq t.wide)

/-- A byte of the record of a list of slots. -/
theorem byteAt_flatMap_slots (slots : List Slot) {k j : Nat} (h : k < slots.length) (hj : j < 4) :
    byteAt (slots.flatMap Slot.toBytes) (4 * k + j) = byteAt slots[k].toBytes j := by
  induction slots generalizing k with
  | nil => exact absurd h (Nat.not_lt_zero k)
  | cons slot slots ih =>
    cases k with
    | zero =>
      rw [Nat.mul_zero, Nat.zero_add]
      exact byteAt_append_of_lt hj _
    | succ k =>
      have four : slot.toBytes.length = 4 := rfl
      rw [List.flatMap_cons, show 4 * (k + 1) + j = slot.toBytes.length + (4 * k + j) by omega, byteAt_append_length]
      exact ih (Nat.lt_of_succ_lt_succ h)

theorem planOfBytes_planBytes {p : Plan} (h : ∀ k : Fin 6, p[k.val].length = 0 ∨ 20 ≤ p[k.val].length.toNat) :
    planOfBytes (planBytes p) = .ok p := by
  have byte (k : Fin 6) {j : Nat} (hj : j < 4) : byteAt (planBytes p) (4 * k.val + j) = byteAt p[k.val].toBytes j := by
    have size : k.val < p.toList.length := by simp
    exact (byteAt_flatMap_slots p.toList size hj).trans (by simp)
  have rule (k : Fin 6) : byteAt (planBytes p) (4 * k.val) = p[k.val].rule.code := byte k (j := 0) (by decide)
  have template (k : Fin 6) : byteAt (planBytes p) (4 * k.val + 1) = p[k.val].template.setWidth 8 :=
    byte k (j := 1) (by decide)
  have length (k : Fin 6) : wordAt (planBytes p) (4 * k.val + 2) = p[k.val].length :=
    wordAt_of_bytes (byte k (j := 2) (by decide)) (byte k (j := 3) (by decide))
  refine planOfBytes_of_codes (fun k => ⟨?_, ?_⟩) fun k => ⟨congrArg _ (rule k), ?_, length k⟩
  · rw [rule]
    cases p[k.val].rule <;> decide
  · rw [length]
    exact h k
  · rw [template, BitVec.toNat_setWidth]
    exact Nat.mod_eq_of_lt (by omega)

theorem LinkSettings.ofBytes_toBytes {r : LinkSettings} (h1 : 1 ≤ r.evMax) (h3 : r.evMax ≤ 3) (hf : r.almostFull ≤ 15) :
    LinkSettings.ofBytes r.toBytes = some r := by
  have bit (b : Bool) : (byteOfBit b).toNat ≤ 1 ∧ decide ((byteOfBit b).toNat = 1) = b := by cases b <;> decide
  have evMax : (BitVec.ofNat 8 r.evMax).toNat = r.evMax := by rw [BitVec.toNat_ofNat]; omega
  have almostFull : (BitVec.ofNat 8 r.almostFull).toNat = r.almostFull := by rw [BitVec.toNat_ofNat]; omega
  have rate : LineRate.ofCode r.rate.code = some r.rate := by cases r.rate <;> rfl
  have order : r.order = if (byteOfBit (r.order = .little)).toNat = 1 then .little else .big := by
    cases r.order <;> rfl
  have trigger : r.trigger = if (byteOfBit (r.trigger = .external)).toNat = 1 then .external else .internal := by
    cases r.trigger <;> rfl
  have coded : LinkBytesCoded r.toBytes := by
    refine ⟨?_, (bit _).1, (bit _).1, (bit _).1, evMax.symm ▸ h1, evMax.symm ▸ h3, almostFull.symm ▸ hf⟩
    show r.rate.code.toNat ≤ 2
    cases r.rate <;> decide
  have fields : byteAt r.toBytes 3 = byteOfBit r.haltOnCheck ∧ byteAt r.toBytes 4 = BitVec.ofNat 8 r.evMax
      ∧ byteAt r.toBytes 5 = BitVec.ofNat 8 r.almostFull := ⟨rfl, rfl, rfl⟩
  rw [LinkSettings.ofBytes_of_coded coded rate order trigger, fields.1, fields.2.1, fields.2.2, evMax, almostFull,
    (bit _).2]

theorem GlobalSettings.ofBytes_toBytes (g : GlobalSettings) : GlobalSettings.ofBytes g.toBytes = g := by
  have batch : wordAt g.toBytes 0 = g.batchWindow := wordAt_of_bytes rfl rfl
  have freeze : wordAt g.toBytes 2 = g.freezeWindow := wordAt_of_bytes rfl rfl
  have resume : wordAt g.toBytes 4 = g.resumeWindow := wordAt_of_bytes rfl rfl
  rw [GlobalSettings.ofBytes, batch, freeze, resume]

/-- The bytes of a CUE record with its status part (R20, R135). -/
theorem CueEntry.toBytes_layout (e : CueEntry) :
    let bs := e.toBytes
    (byteAt bs 0).getLsbD 7 = decide (e.config.cls = .switch) ∧ (byteAt bs 0).extractLsb' 3 4 = 0
      ∧ (byteAt bs 0).extractLsb' 0 3 = ownerCode e.config.owner
      ∧ wordAt bs 1 = e.config.neutral ∧ wordAt bs 3 = e.config.freshLimit
      ∧ wordAt bs 5 = e.config.holdLimit ∧ wordAt bs 7 = e.config.fadeStep
      ∧ (byteAt bs 9).extractLsb' 0 3 = e.state.code
      ∧ (byteAt bs 9).getLsbD 3 = e.pending.isSome ∧ (byteAt bs 9).getLsbD 4 = e.override.isSome
      ∧ (byteAt bs 9).extractLsb' 5 3 = 0 ∧ wordAt bs 10 = e.effective ∧ wordAt bs 12 = e.stepTag := by
  obtain ⟨cls, unnamed, owner⟩ := cueHeader_bits e.config.cls.bit (ownerCode e.config.owner)
  obtain ⟨state, pending, override, free⟩ := cueStatus_bits e.override.isSome e.pending.isSome e.state.code
  refine ⟨cls.trans ?_, unnamed, owner, wordAt_of_bytes rfl rfl, wordAt_of_bytes rfl rfl, wordAt_of_bytes rfl rfl,
    wordAt_of_bytes rfl rfl, state, pending, override, free, wordAt_of_bytes rfl rfl, wordAt_of_bytes rfl rfl⟩
  cases e.config.cls <;> rfl

/-- Settles O52. -/
theorem recordsSurviveTheirBytes : Obligations.RecordsSurviveTheirBytes := by
  refine ⟨fun e => ⟨rfl, CueConfig.ofBytes_toBytes e⟩, fun e => ?_, fun bs c => CueConfig.toBytes_ofBytes,
    fun r => ⟨rfl, r.ofBytes_toBytes⟩, fun bs r => RouteRecord.toBytes_ofBytes,
    fun bs => ⟨rfl, rfl, rfl, rfl, fun i hi => Template.ofBytes_layout bs hi⟩, fun r => ?_,
    fun t => ⟨?_, rfl, ?_, ?_, fun i hi => t.toBytes_isWide hi⟩, fun t ht => ⟨rfl, Template.ofBytes_toBytes ht⟩,
    fun p hp => ⟨planBytes_length p, planOfBytes_planBytes hp⟩,
    fun r h1 h3 hf => ⟨rfl, LinkSettings.ofBytes_toBytes h1 h3 hf⟩, fun g => ⟨rfl, g.ofBytes_toBytes⟩⟩
  · obtain ⟨cls, unnamed, owner, neutral, fresh, hold, fade, state, pending, override, free, effective, tag⟩ :=
      e.toBytes_layout
    refine ⟨cls, unnamed, ?_, neutral, fresh, hold, fade, ?_, pending, override, free, effective, tag⟩
    · rw [owner]
      cases e.config.owner with
      | none => rfl
      | some l => cases l <;> rfl
    · rw [state]
      cases e.state <;> rfl
  · have out := r.laidOut
    refine ⟨?_, ?_, out.substitutePresent, ?_, out.receiverAddress, out.sourceBPresent, ?_, out.template, out.shift, ?_⟩
    · rw [out.kind]
      cases r.kind <;> rfl
    · rw [out.combine]
      cases r.combine <;> rfl
    · rw [out.direction]
      cases r.direction <;> rfl
    · rw [out.link]
      cases r.link <;> rfl
    · obtain ⟨b2, b3, b4, b5⟩ := out.bytes
      exact ⟨b2, b3, b4, b5, out.words⟩
  · rfl
  · show t.split.getD 0 = _
    cases t.split <;> rfl
  · rfl

end Sys2Proof.Machine

/-! PROOFS. What a slot open, and the entry to RUNNING, leave of the routes and of the ramp (R53, R59, R102, R112). -/

namespace Sys2Proof.Machine

/-! ### The ramp -/

/-- The freeze controller stands, or its ramp has ended without the window (R112). -/
def FreezeControl.RampTo (f g : FreezeControl) : Prop :=
  g = f ∨ (f.state = .freezing ∧ g = { state := .frozen, timer := none })
    ∨ (f.state = .resuming ∧ g = { state := .run, timer := none })

theorem FreezeControl.RampTo.refl (f : FreezeControl) : f.RampTo f := .inl rfl

theorem FreezeControl.RampTo.trans {f g h : FreezeControl} (a : f.RampTo g) (b : g.RampTo h) : f.RampTo h := by
  rcases a with rfl | ⟨hf, rfl⟩ | ⟨hf, rfl⟩
  · exact b
  · rcases b with rfl | ⟨hg, -⟩ | ⟨hg, -⟩
    · exact .inr (.inl ⟨hf, rfl⟩)
    · cases hg
    · cases hg
  · rcases b with rfl | ⟨hg, -⟩ | ⟨hg, -⟩
    · exact .inr (.inr ⟨hf, rfl⟩)
    · cases hg
    · cases hg

theorem State.reevaluate_ramp (s : State) : s.freeze.RampTo s.reevaluate.freeze := by
  cases hf : s.freeze.state with
  | run => rw [State.reevaluate_at_rest (.inl hf)]; exact .refl _
  | frozen => rw [State.reevaluate_at_rest (.inr hf)]; exact .refl _
  | freezing =>
    unfold State.reevaluate
    simp only [hf]
    split
    · exact .inr (.inl ⟨hf, rfl⟩)
    · exact .refl _
  | resuming =>
    unfold State.reevaluate
    simp only [hf]
    split
    · exact .inr (.inr ⟨hf, rfl⟩)
    · exact .refl _

/-! ### A build -/

/-- What holds around each computation of a FIELD route of the link holds around a build (R59). -/
theorem State.buildTemplate_rel {R : State → State → Prop} (refl : ∀ v, R v v)
    (trans : ∀ {u v w}, R u v → R v w → R u w) (s : State) (l : LinkId) (t : BitVec 2)
    (step : ∀ (v : State) (k : RouteId), (v.route k).record.kind = .field → (v.route k).record.link = l →
      R v (v.computeField k)) : R s (s.buildTemplate l t).1 := by
  have fields : ∀ (ps : List Nat) (u : State), R u (u.buildFields l t ps).1 := by
    intro ps
    induction ps with
    | nil => exact refl
    | cons i rest ih =>
      intro u
      unfold State.buildFields
      dsimp only
      split
      · exact ih u
      · next k hk =>
        obtain ⟨⟨hf, hl, -⟩, -⟩ := State.routeAt_eq_some hk
        exact trans (step u k hf hl) (ih _)
  exact fields _ s

/-- A build computes FIELD routes of its link (R59, R60). -/
theorem State.buildTemplate_route_other (s : State) (l : LinkId) (t : BitVec 2) {id : RouteId}
    (h : ¬ ((s.route id).record.kind = .field ∧ (s.route id).record.link = l)) :
    (s.buildTemplate l t).1.route id = s.route id := by
  refine State.buildTemplate_rel (R := fun u w => u.route id = s.route id → w.route id = s.route id) (fun _ hu => hu)
    (fun hu hw hs => hw (hu hs)) s l t (fun v k hf hl hv => ?_) rfl
  refine (State.computeField_route_ne v ?_).trans hv
  rintro rfl
  rw [hv] at hf hl
  exact h ⟨hf, hl⟩

theorem State.computeField_eq_record (s : State) (id : RouteId) : s.computeField id = { s with
    routes := (s.computeField id).routes, flags := { s.flags with clipped := (s.computeField id).flags.clipped }
    lastClipped := (s.computeField id).lastClipped } := by
  rw [State.computeField_eq, State.noteClip_eq]
  rfl

/-- The ramp does not move while fields are built: the re-evaluation comes after the build (R112). -/
theorem State.buildTemplate_freeze (s : State) (l : LinkId) (t : BitVec 2) :
    (s.buildTemplate l t).1.freeze = s.freeze :=
  State.buildTemplate_rel (R := fun u w => w.freeze = u.freeze) (fun _ => rfl) (fun hu hw => hw.trans hu) s l t
    fun v k _ _ => by rw [State.computeField_eq_record]

/-- A flag that stands or has been set. -/
def Raised (a b : Bool) : Prop := b = a ∨ b = true

theorem Raised.refl (a : Bool) : Raised a a := .inl rfl

theorem Raised.trans {a b c : Bool} (h : Raised a b) (k : Raised b c) : Raised a c := by
  rcases k with rfl | rfl
  · exact h
  · exact .inr rfl

/-- Of three states in a row, a flag that is only ever set is in the middle one as in the first or as in the last. -/
theorem Raised.between {a b c : Bool} (h : Raised a b) (k : Raised b c) : b = a ∨ b = c := by
  rcases h with rfl | rfl
  · exact .inl rfl
  · exact .inr (k.elim Eq.symm Eq.symm)

theorem State.buildTemplate_clipped (s : State) (l : LinkId) (t : BitVec 2) :
    Raised s.flags.clipped (s.buildTemplate l t).1.flags.clipped := by
  refine State.buildTemplate_rel (R := fun u w => Raised u.flags.clipped w.flags.clipped) (fun _ => .refl _)
    (fun hu hw => hu.trans hw) s l t fun v k _ _ => ?_
  rw [State.computeField_eq, State.noteClip_eq]
  cases v.noted k
  · exact .inl (Bool.or_false _)
  · exact .inr (Bool.or_true _)

/-- Each FIELD route of the template is computed from the state of the build; every other route stands (R58, R59). -/
theorem State.buildTemplate_route {s : State} (hs : s.FieldPositionsLawful) (l : LinkId) (t : BitVec 2) (id : RouteId) :
    (s.buildTemplate l t).1.route id = s.route id ∨ (s.buildTemplate l t).1.route id = s.computed id := by
  have built := State.buildTemplate_built hs l t
  by_cases h : s.AtPositions l t ((s.port l).template t).positions id
  · exact .inr (built.computed id h)
  · exact .inl (built.others id h)

/-! ### A slot open -/

/-- Two ports with the same walk position and slot timer. -/
def Port.SameSlot (p q : Port) : Prop := q.walk = p.walk ∧ q.slotTimer = p.slotTimer

theorem Port.sendingRecord_sameSlot (p : Port) (now : Time) (summary : Byte) (tag : Word) (r : QueueRecord) :
    p.SameSlot (p.sendingRecord now summary tag r) := by
  cases r <;> exact ⟨rfl, rfl⟩

theorem State.sendEventOr_cases (s u : State) (l : LinkId) (summary : Byte) :
    (∃ p, (s.port l).SameSlot p ∧ s.sendEventOr l summary u = s.setPort l p) ∨ s.sendEventOr l summary u = u := by
  unfold State.sendEventOr
  split
  · exact .inl ⟨_, Port.sendingRecord_sameSlot .., s.sendRecord_eq l summary _⟩
  · exact .inr rfl

/-- A rule changes its link, or builds one template, puts a frame on the line and has the ramp re-evaluated; the walk
and its timer stand as they opened. -/
theorem State.applyRule_cases (u : State) (l : LinkId) (slot : Slot) (snap : Option Snapshot) :
    ∃ p, (u.port l).SameSlot p ∧ (u.applyRule l slot snap = u.setPort l p
      ∨ ∃ t, u.applyRule l slot snap = ((u.buildTemplate l t).1.setPort l p).reevaluate) := by
  have self : u = u.setPort l (u.port l) := (u.setPort_self l).symm
  have event (summary : Byte) : ∃ p, (u.port l).SameSlot p ∧ u.sendEventOr l summary u = u.setPort l p := by
    rcases u.sendEventOr_cases u l summary with ⟨p, hp, he⟩ | he
    · exact ⟨p, hp, he⟩
    · exact ⟨u.port l, ⟨rfl, rfl⟩, he.trans self⟩
  unfold State.applyRule
  split
  · refine ⟨_, ?_, .inr ⟨_, u.sendCyclic_eq l _ _⟩⟩
    exact ⟨rfl, rfl⟩
  · rcases u.sendEventOr_cases (u.sendCyclic l u.summary slot.template) l u.summary with ⟨p, hp, he⟩ | he
    · exact ⟨p, hp, .inl he⟩
    · refine ⟨_, ?_, .inr ⟨_, he.trans (u.sendCyclic_eq l _ _)⟩⟩
      exact ⟨rfl, rfl⟩
  · obtain ⟨p, hp, he⟩ := event u.summary
    exact ⟨p, hp, .inl he⟩
  · refine ⟨_, ?_, .inr ⟨_, u.sendHead_eq l _ _⟩⟩
    exact ⟨rfl, rfl⟩
  · split
    · refine ⟨_, ?_, .inl (u.sendTail_eq l _ _)⟩
      exact ⟨rfl, rfl⟩
    · refine ⟨_, ?_, .inl (u.modLinkFlags_eq l _)⟩
      exact ⟨rfl, rfl⟩
  · split
    · refine ⟨_, ?_, .inl (u.sendTail_eq l _ _)⟩
      exact ⟨rfl, rfl⟩
    · obtain ⟨p, hp, he⟩ := event u.summary
      exact ⟨p, hp, .inl he⟩
  · refine ⟨_, ?_, .inl self⟩
    exact ⟨rfl, rfl⟩

theorem State.openSlot_cases (s : State) (l : LinkId) (k : Fin 6) :
    ∃ p, ((s.port l).atSlot s.now k).SameSlot p ∧ (s.openSlot l k = s.setPort l p
      ∨ ∃ t, s.openSlot l k = (((s.atSlot l k).buildTemplate l t).1.setPort l p).reevaluate) := by
  by_cases hl : (s.port l).line = none
  · obtain ⟨p, hp, h⟩ := (s.atSlot l k).applyRule_cases l (s.port l).plan[k.val] (s.port l).snapshot
    rw [← State.openSlot_free k hl, State.atSlot_setPort] at h
    rw [State.atSlot_port] at hp
    exact ⟨p, hp, h⟩
  · refine ⟨_, ?_, .inl (State.openSlot_overrun k hl)⟩
    exact ⟨rfl, rfl⟩

/-- The walk and its timer after a slot open (R89, R91). -/
theorem State.openSlot_sameSlot (s : State) (l : LinkId) (k : Fin 6) :
    ((s.port l).atSlot s.now k).SameSlot ((s.openSlot l k).port l) := by
  obtain ⟨p, hp, h | ⟨t, h⟩⟩ := s.openSlot_cases l k
  · rwa [h, State.setPort_port_same]
  · rwa [h, State.reevaluate_port, State.setPort_port_same]

theorem State.openSlot_ramp (s : State) (l : LinkId) (k : Fin 6) : s.freeze.RampTo (s.openSlot l k).freeze := by
  obtain ⟨p, -, h | ⟨t, h⟩⟩ := s.openSlot_cases l k
  · rw [h]; exact .refl _
  · rw [h]
    have same : (((s.atSlot l k).buildTemplate l t).1.setPort l p).freeze = s.freeze :=
      State.buildTemplate_freeze _ l t
    exact same ▸ State.reevaluate_ramp _

theorem State.openSlot_clipped (s : State) (l : LinkId) (k : Fin 6) :
    Raised s.flags.clipped (s.openSlot l k).flags.clipped := by
  obtain ⟨p, -, h | ⟨t, h⟩⟩ := s.openSlot_cases l k
  · rw [h]; exact .refl _
  · rw [h, State.reevaluate_eq]; exact (s.atSlot l k).buildTemplate_clipped l t

theorem State.openSlot_route_other (s : State) (l : LinkId) (k : Fin 6) {id : RouteId}
    (h : ¬ ((s.route id).record.kind = .field ∧ (s.route id).record.link = l)) :
    (s.openSlot l k).route id = s.route id := by
  obtain ⟨p, -, ho | ⟨t, ho⟩⟩ := s.openSlot_cases l k
  · rw [ho]; rfl
  · rw [ho, State.reevaluate_route]
    exact State.buildTemplate_route_other (s.atSlot l k) l t h

/-- `t` is reached from `s` by at most one computation of each route, from routes, cues and a ramp as they stand in `s`
(R58). -/
def State.ComputesOnce (s t : State) : Prop := ∀ id, t.route id = s.route id ∨ t.route id = s.computed id

theorem State.ComputesOnce.of_eq {s t : State} (h : ∀ id, t.route id = s.route id) : s.ComputesOnce t :=
  fun id => .inl (h id)

theorem State.ComputesOnce.of_same {s u t : State} (h : u.ComputesOnce t) (hu : ∀ id, s.SameFor u id) :
    s.ComputesOnce t := by
  intro id
  rw [← (hu id).route, ← (hu id).computed]
  exact h id

theorem State.setPort_same (s : State) (l : LinkId) (p : Port) (id : RouteId) : s.SameFor (s.setPort l p) id :=
  ⟨rfl, fun _ => rfl, rfl⟩

theorem State.FieldPositionsLawful.setPort {s : State} (hs : s.FieldPositionsLawful) {l : LinkId} {p : Port}
    (hp : p.templates = (s.port l).templates) : (s.setPort l p).FieldPositionsLawful :=
  hs.of_eq (fun _ => rfl) fun k => State.setPort_template hp k

theorem State.openSlot_computes {s : State} (hs : s.FieldPositionsLawful) (l : LinkId) (k : Fin 6) :
    s.ComputesOnce (s.openSlot l k) := by
  obtain ⟨p, -, ho | ⟨t, ho⟩⟩ := s.openSlot_cases l k
  · rw [ho]; exact .of_eq fun _ => rfl
  · refine State.ComputesOnce.of_same (u := s.atSlot l k) (fun id => ?_) (s.setPort_same l _)
    rw [ho, State.reevaluate_route]
    exact State.buildTemplate_route (hs.setPort (l := l) (p := (s.port l).atSlot s.now k) rfl) l t id

/-! ### What opens a slot -/

theorem State.openNext_cases (s : State) (l : LinkId) :
    (∃ p, s.openNext l = s.setPort l p) ∨ ∃ k, s.openNext l = s.openSlot l k := by
  unfold State.openNext
  split
  · exact .inr ⟨_, rfl⟩
  · exact .inl ⟨_, rfl⟩

theorem State.openNext_computes {s : State} (hs : s.FieldPositionsLawful) (l : LinkId) :
    s.ComputesOnce (s.openNext l) := by
  rcases s.openNext_cases l with ⟨p, h⟩ | ⟨k, h⟩
  · rw [h]; exact .of_eq fun _ => rfl
  · rw [h]; exact State.openSlot_computes hs l k

/-- An entry to RUNNING opens one slot of the entered link, or none (R102). -/
theorem State.enterRunning_cases (s : State) (l : LinkId) :
    (∃ p, s.enterRunning l = s.setPort l p) ∨ ∃ k, s.enterRunning l = (s.setPort l (s.port l).entered).openSlot l k := by
  rw [State.enterRunning_eq]
  split
  · rcases (s.setPort l (s.port l).entered).openNext_cases l with ⟨p, h⟩ | ⟨k, h⟩
    · exact .inl ⟨p, h.trans (s.setPort_setPort l _ _)⟩
    · exact .inr ⟨k, h⟩
  · exact .inl ⟨_, rfl⟩

theorem State.enterRunning_computes {s : State} (hs : s.FieldPositionsLawful) (l : LinkId) :
    s.ComputesOnce (s.enterRunning l) := by
  rcases s.enterRunning_cases l with ⟨p, h⟩ | ⟨k, h⟩
  · rw [h]; exact .of_eq fun _ => rfl
  · rw [h]
    exact (State.openSlot_computes (hs.setPort (p := (s.port l).entered) rfl) l k).of_same (s.setPort_same l _)

theorem State.enterRunning_route_other (s : State) (l : LinkId) {id : RouteId}
    (h : ¬ ((s.route id).record.kind = .field ∧ (s.route id).record.link = l)) :
    (s.enterRunning l).route id = s.route id := by
  rcases s.enterRunning_cases l with ⟨p, he⟩ | ⟨k, he⟩
  · rw [he]; rfl
  · rw [he]; exact State.openSlot_route_other (s.setPort l _) l k h

theorem State.enterRunning_ramp (s : State) (l : LinkId) : s.freeze.RampTo (s.enterRunning l).freeze := by
  rcases s.enterRunning_cases l with ⟨p, h⟩ | ⟨k, h⟩
  · rw [h]; exact .refl _
  · rw [h]; exact State.openSlot_ramp (s.setPort l _) l k

theorem State.restartWalk_computes {s : State} (hs : s.FieldPositionsLawful) (l : LinkId) :
    s.ComputesOnce (s.restartWalk l) := by
  unfold State.restartWalk
  dsimp only
  split
  · exact State.openNext_computes hs l
  · exact .of_eq fun _ => rfl

/-! ### The move of one computation -/

theorem State.clamped_between {s : State} {id : RouteId} (h : (s.route id).record.Bounded) :
    (s.route id).record.lo.toInt ≤ s.clamped id ∧ s.clamped id ≤ (s.route id).record.hi.toInt := by
  obtain ⟨hl, hu, -⟩ := h
  unfold State.clamped
  dsimp only
  split_ifs <;> omega

theorem State.slewGoal_between {s : State} {id : RouteId} (h : (s.route id).record.Bounded) :
    (s.route id).record.lo.toInt ≤ s.slewGoal id ∧ s.slewGoal id ≤ (s.route id).record.hi.toInt := by
  unfold State.slewGoal
  split
  · exact State.clamped_between h
  · exact ⟨h.1, h.2.1⟩

/-- A route after at most one computation, in its range and within the limit in force (R52, R53, R113). -/
theorem State.computed_moves {s : State} {id : RouteId} {x : Route} (hx : x = s.route id ∨ x = s.computed id)
    (ha : s.sourceClass (s.route id).record = .analog) (hb : (s.route id).record.Bounded) (hr : (s.route id).InRange) :
    x.record = (s.route id).record ∧ x.InRange
      ∧ (slewLimit s.freeze.state (s.route id).record ≠ 0 →
          (x.held.toInt - (s.route id).held.toInt).natAbs ≤ slewLimit s.freeze.state (s.route id).record) := by
  rcases hx with rfl | rfl
  · exact ⟨rfl, hr, fun _ => by simp⟩
  · obtain ⟨gl, gu⟩ := State.slewGoal_between hb
    refine ⟨s.computed_record id, ?_, fun hn => ?_⟩
    · rw [Route.InRange, s.computed_record, State.computed_analog_held ha]
      exact slewStage_between _ hr.1 hr.2 gl gu
    · rw [State.computed_analog_held ha]
      exact slewStage_within _ _ hn

/-- A nonzero limit in force is no more than a nonzero slew (R43). -/
theorem RouteRecord.Bounded.slewLimit_le {r : RouteRecord} (h : r.Bounded) (f : FreezeState) (hs : r.slew.toNat ≠ 0) :
    slewLimit f r ≤ r.slew.toNat := by
  rw [slewLimit_eq]
  split
  · exact le_refl _
  · exact h.2.2 fun h0 => hs (by rw [h0]; rfl)

end Sys2Proof.Machine

/-! PROOFS. The parts of a millisecond tick, one by one, and what a run of them keeps (log entry 4). -/

namespace Sys2Proof.Machine

/-! ### One port's part -/

/-- A STARTING link whose start-up by idle fill is complete at the tick (R122). -/
def Port.Starts (p : Port) : Prop := p.state = .starting ∧ p.idleRun = true ∧ p.fill = .whole ∧ p.heard = true

/-- A RUNNING link that loses its signal at the tick (R125). -/
def Port.Leaves (p : Port) : Prop := p.state = .running ∧ 1 ≤ p.silence

/-- A STARTING link after the counts of its tick (R122). -/
def Port.counted (p : Port) : Port :=
  { p with
    startTimer := p.startTimer + 1, heard := false
    fill := if p.fill ≠ FillRun.absent ∧ p.heard = true then .whole else .absent }

/-- A RUNNING link that the tick takes DOWN (R123, R125). -/
def Port.lost (p : Port) : Port :=
  { p.stopped .down with silence := p.silence + 1, heard := false, flags := { p.flags with signalLost := true } }

section
variable {v : State} {l : LinkId}

theorem State.tickPort_off (h : (v.port l).state = .off) : v.tickPort l = v := by
  unfold State.tickPort
  rw [h]

theorem State.tickPort_starting (h : (v.port l).state = .starting) : v.tickPort l = v.tickStarting l := by
  unfold State.tickPort
  rw [h]

theorem State.tickPort_silent (h : (v.port l).state = .running ∨ (v.port l).state = .halted) :
    v.tickPort l = v.tickSilence l := by
  unfold State.tickPort
  rcases h with h | h <;> rw [h]

theorem State.tickPort_down (h : (v.port l).state = .down) : v.tickPort l = v.tickDown l := by
  unfold State.tickPort
  rw [h]

theorem State.counted_eq : (v.modPort l fun p =>
    { p with startTimer := p.startTimer + 1, fill := p.fill.afterTick p.heard, heard := false })
      = v.setPort l (v.port l).counted := by
  simp only [State.modPort_eq, FillRun.afterTick_eq]
  rfl

theorem State.tickPort_starts (h : (v.port l).Starts) :
    v.tickPort l = (v.setPort l (v.port l).counted).enterRunning l := by
  rw [State.tickPort_starting h.1, State.tickStarting, if_pos ((Port.filled_iff _).mpr h.2), State.counted_eq]

theorem Port.not_filled {p : Port} (h : p.state = .starting) (hn : ¬ p.Starts) : ¬ p.filled = true :=
  fun hf => hn ⟨h, (Port.filled_iff p).mp hf⟩

theorem State.tickPort_waits (h : (v.port l).state = .starting) (hn : ¬ (v.port l).Starts)
    (ht : (v.port l).startTimer + 1 < 50) :
    v.tickPort l = v.setPort l { (v.port l).counted with idleRun := true } := by
  rw [State.tickPort_starting h, State.tickStarting, if_neg (Port.not_filled h hn),
    if_neg (show ¬ Config.startLimit ≤ _ from Nat.not_le.mpr ht), State.counted_eq, State.modPort_eq,
    State.setPort_setPort, State.setPort_port_same]

theorem State.tickPort_timesOut (h : (v.port l).state = .starting) (hn : ¬ (v.port l).Starts)
    (ht : 50 ≤ (v.port l).startTimer + 1) : v.tickPort l = v.setPort l
      { (v.port l).counted with state := .down, flags := { (v.port l).flags with startTimeout := true } } := by
  have hst : ((v.setPort l (v.port l).counted).port l).state ≠ .running := by
    rw [State.setPort_port_same]
    exact fun hr => by rw [show (v.port l).counted.state = _ from h] at hr; cases hr
  rw [State.tickPort_starting h, State.tickStarting, if_neg (Port.not_filled h hn),
    if_pos (show Config.startLimit ≤ _ from ht), State.counted_eq, State.timeOutStart,
    State.leaveFor_not_running hst, State.modLinkFlags_eq, State.setPort_setPort, State.setPort_setPort,
    State.setPort_port_same, State.setPort_port_same]
  rfl

theorem State.tickPort_silence (h : (v.port l).state = .running ∨ (v.port l).state = .halted)
    (hs : (v.port l).silence = 0) :
    v.tickPort l = v.setPort l { v.port l with silence := 1, heard := false } := by
  rw [State.tickPort_silent h, State.tickSilence, if_neg (by rw [hs]; decide), State.modPort_eq, hs]

theorem State.tickPort_leaves (h : (v.port l).Leaves) : v.tickPort l =
    ((if l = .d then v.tearBatch else v).setPort l (v.port l).lost).reevaluate := by
  obtain ⟨hr, hs⟩ := h
  rw [State.tickPort_silent (.inl hr), State.tickSilence, if_pos (show Config.silenceLimit ≤ _ from Nat.succ_le_succ hs),
    State.modPort_eq, State.loseSignal_running (by rw [State.setPort_port_same]; exact hr), State.setPort_port_same]
  split
  · rw [State.tearBatch_setPort, State.setPort_setPort]
    rfl
  · rw [State.setPort_setPort]
    rfl

theorem State.tickPort_halted (h : (v.port l).state = .halted) (hs : 1 ≤ (v.port l).silence) :
    v.tickPort l = v.setPort l { v.port l with
      state := .down, silence := (v.port l).silence + 1, heard := false
      flags := { (v.port l).flags with signalLost := true } } := by
  rw [State.tickPort_silent (.inr h), State.tickSilence, if_pos (show Config.silenceLimit ≤ _ from Nat.succ_le_succ hs),
    State.modPort_eq, State.loseSignal_halted (by rw [State.setPort_port_same]; exact h), State.setPort_setPort,
    State.setPort_port_same]

theorem State.tickPort_stays_down (h : (v.port l).state = .down) (hn : l ≠ .d ∨ (v.port l).heard = false) :
    v.tickPort l = v.setPort l { v.port l with heard := false } := by
  rw [State.tickPort_down h, State.tickDown, if_neg, State.modPort_eq]
  rw [Bool.and_eq_true, decide_eq_true_iff]
  rintro ⟨hl, hh⟩
  rcases hn with hn | hn
  · exact hn hl
  · rw [hn] at hh
    cases hh

theorem State.tickPort_returns (h : (v.port l).state = .down) (hl : l = .d) (hh : (v.port l).heard = true) :
    v.tickPort l = v.setPort l { v.port l with
      state := .starting, startTimer := 0, idleRun := false, fill := .absent, heard := false } := by
  have hst : ((v.setPort l { v.port l with heard := false }).port l).state ≠ .running := by
    rw [State.setPort_port_same]
    exact fun hr => by rw [show (v.port l).state = _ from h] at hr; cases hr
  rw [State.tickPort_down h, State.tickDown, if_pos (by rw [hh]; simpa using hl), State.modPort_eq, State.enterStarting,
    State.leaveFor_not_running hst, State.modPort_eq, State.setPort_setPort, State.setPort_setPort,
    State.setPort_port_same, State.setPort_port_same]

/-- A link that neither starts up nor loses its signal while RUNNING changes itself alone. -/
theorem State.tickPort_quiet (hs : ¬ (v.port l).Starts) (hl : ¬ (v.port l).Leaves) :
    ∃ p, v.tickPort l = v.setPort l p := by
  cases h : (v.port l).state with
  | off => exact ⟨_, (State.tickPort_off h).trans (v.setPort_self l).symm⟩
  | starting =>
    by_cases ht : (v.port l).startTimer + 1 < 50
    · exact ⟨_, State.tickPort_waits h hs ht⟩
    · exact ⟨_, State.tickPort_timesOut h hs (Nat.not_lt.mp ht)⟩
  | running => exact ⟨_, State.tickPort_silence (.inl h) (Nat.lt_one_iff.mp (Nat.not_le.mp fun hn => hl ⟨h, hn⟩))⟩
  | halted =>
    rcases Nat.eq_zero_or_pos (v.port l).silence with hz | hp
    · exact ⟨_, State.tickPort_silence (.inr h) hz⟩
    · exact ⟨_, State.tickPort_halted h hp⟩
  | down =>
    by_cases hr : l = .d ∧ (v.port l).heard = true
    · exact ⟨_, State.tickPort_returns h hr.1 hr.2⟩
    · refine ⟨_, State.tickPort_stays_down h ?_⟩
      rwa [not_and_or, Bool.not_eq_true] at hr

end

/-! ### The other ports -/

theorem State.testBatchWindow_port (s : State) (k : LinkId) : s.testBatchWindow.port k = s.port k := by
  unfold State.testBatchWindow
  split
  · split <;> rfl
  · rfl

theorem State.tickBatch_port (s : State) (k : LinkId) : s.tickBatch.port k = s.port k := by
  unfold State.tickBatch
  split
  · exact State.testBatchWindow_port _ k
  · rfl

theorem State.tickWindow_port (s : State) (k : LinkId) : s.tickWindow.port k = s.port k := by
  have freeze (u : State) : u.testFreezeWindow.port k = u.port k := by
    unfold State.testFreezeWindow
    split
    · split <;> rfl
    · rfl
  have resume (u : State) : u.testResumeWindow.port k = u.port k := by
    unfold State.testResumeWindow
    split
    · split <;> rfl
    · rfl
  unfold State.tickWindow
  dsimp only
  split
  · exact freeze _
  · exact resume _
  · rfl
  · rfl

theorem State.enterRunning_port_ne (s : State) {l k : LinkId} (hk : k ≠ l) : (s.enterRunning l).port k = s.port k := by
  rcases s.enterRunning_cases l with ⟨p, h⟩ | ⟨n, h⟩
  · rw [h, State.setPort_port, if_neg hk]
  · rw [h, (State.openSlot_effect _ l n).port_ne hk, State.setPort_port, if_neg hk]

theorem State.tickPort_port_ne (v : State) {l k : LinkId} (hk : k ≠ l) : (v.tickPort l).port k = v.port k := by
  by_cases hs : (v.port l).Starts
  · rw [State.tickPort_starts hs, State.enterRunning_port_ne _ hk, State.setPort_port, if_neg hk]
  · by_cases hl : (v.port l).Leaves
    · rw [State.tickPort_leaves hl, State.reevaluate_port, State.setPort_port, if_neg hk]
      split <;> simp
    · obtain ⟨p, hp⟩ := State.tickPort_quiet hs hl
      rw [hp, State.setPort_port, if_neg hk]

theorem State.tickPart_port_other (v : State) {part : TickPart} {k : LinkId} (h : part ≠ .port k) :
    (v.tickPart part).port k = v.port k := by
  cases part with
  | cues => rfl
  | batchTimer => exact v.tickBatch_port k
  | windowTimer => exact v.tickWindow_port k
  | port l => exact v.tickPort_port_ne fun hk => h (congrArg _ hk.symm)

/-! ### A run of parts -/

/-- A run of parts of a tick. -/
def State.tickParts (v : State) (parts : List TickPart) : State := parts.foldl State.tickPart v

theorem State.tickParts_append (v : State) (xs ys : List TickPart) :
    v.tickParts (xs ++ ys) = (v.tickParts xs).tickParts ys := List.foldl_append

theorem State.tickParts_cons (v : State) (x : TickPart) (xs : List TickPart) :
    v.tickParts (x :: xs) = (v.tickPart x).tickParts xs := rfl

theorem State.tickParts_port_other {parts : List TickPart} {k : LinkId} (h : .port k ∉ parts) (v : State) :
    (v.tickParts parts).port k = v.port k := by
  induction parts generalizing v with
  | nil => rfl
  | cons part rest ih =>
    obtain ⟨hp, hr⟩ := not_or.mp (mt List.mem_cons.mpr h)
    rw [State.tickParts_cons, ih hr, State.tickPart_port_other v (Ne.symm hp)]

/-- What holds between the states around each part of a run holds around the run: at its part each link still stands as
at the start of the run. -/
theorem State.tickParts_rel {R : State → State → Prop} (refl : ∀ v, R v v) (trans : ∀ {u v w}, R u v → R v w → R u w)
    {parts : List TickPart} (nodup : parts.Nodup) (s : State)
    (part : ∀ x ∈ parts, ∀ v : State, (∀ l, x = .port l → v.port l = s.port l) → R v (v.tickPart x)) :
    R s (s.tickParts parts) := by
  have run : ∀ (xs : List TickPart) (v : State), xs.Nodup → xs ⊆ parts → (∀ l, .port l ∈ xs → v.port l = s.port l) →
      R v (v.tickParts xs) := by
    intro xs
    induction xs with
    | nil => exact fun v _ _ _ => refl v
    | cons x rest ih =>
      intro v hn hsub hv
      obtain ⟨hx, hrest⟩ := List.nodup_cons.mp hn
      obtain ⟨hxm, hrm⟩ := List.cons_subset.mp hsub
      refine trans (part x hxm v fun l hl => hv l (hl ▸ List.mem_cons_self)) (ih _ hrest hrm fun l hl => ?_)
      rw [State.tickPart_port_other v (by rintro rfl; exact hx hl)]
      exact hv l (List.mem_cons_of_mem _ hl)
  exact run parts s nodup (List.Subset.refl _) fun _ _ => rfl

/-- Each part of a tick comes exactly once in its sequence. -/
theorem tickSequence_split_at (order : List TickPart) (x : TickPart) :
    ∃ before after, tickSequence order = before ++ x :: after ∧ (before ++ x :: after).Nodup := by
  have hall : x ∈ allTickParts := by
    cases x with
    | cues => decide
    | batchTimer => decide
    | windowTimer => decide
    | port l => cases l <;> decide
  obtain ⟨before, after, h⟩ := List.append_of_mem (List.mem_eraseDups.mpr (List.mem_append_right order hall))
  exact ⟨before, after, h, h ▸ nodup_eraseDups _⟩

end Sys2Proof.Machine

/-! PROOFS. What each part of a millisecond tick leaves: the frame of a tick, the batch, the ramp, the routes and the
clip record (R36, R108, R122, R123, log entry 4). -/

namespace Sys2Proof.Machine

/-! ### The frame of a tick -/

/-- The freeze state stands, or its ramp has ended, by the window or before it (R108, R112). -/
def FreezeState.TickTo (f g : FreezeState) : Prop :=
  g = f ∨ (f = .freezing ∧ g = .frozen) ∨ (f = .resuming ∧ g = .run)

theorem FreezeState.TickTo.trans {f g h : FreezeState} (a : f.TickTo g) (b : g.TickTo h) : f.TickTo h := by
  rcases b with rfl | ⟨rfl, rfl⟩ | ⟨rfl, rfl⟩
  · exact a
  · rcases a with rfl | ⟨-, ha⟩ | ⟨-, ha⟩
    · exact .inr (.inl ⟨rfl, rfl⟩)
    · cases ha
    · cases ha
  · rcases a with rfl | ⟨-, ha⟩ | ⟨-, ha⟩
    · exact .inr (.inr ⟨rfl, rfl⟩)
    · cases ha
    · cases ha

/-- Of three states in a row, the middle one is the first or the last. -/
theorem FreezeState.TickTo.between {f g h : FreezeState} (a : f.TickTo g) (b : g.TickTo h) : g = f ∨ g = h := by
  rcases a with rfl | ⟨-, rfl⟩ | ⟨-, rfl⟩
  · exact .inl rfl
  · rcases b with rfl | ⟨hb, -⟩ | ⟨hb, -⟩
    · exact .inr rfl
    · cases hb
    · cases hb
  · rcases b with rfl | ⟨hb, -⟩ | ⟨hb, -⟩
    · exact .inr rfl
    · cases hb
    · cases hb

theorem FreezeControl.RampTo.state {f g : FreezeControl} (h : f.RampTo g) : f.state.TickTo g.state := by
  rcases h with rfl | ⟨hf, rfl⟩ | ⟨hf, rfl⟩
  · exact .inl rfl
  · exact .inr (.inl ⟨hf, rfl⟩)
  · exact .inr (.inr ⟨hf, rfl⟩)

/-- What a run of parts of a tick can change, and in which direction (log entry 4). -/
structure State.TickRun (v w : State) : Prop where
  rest : w = { v with
    cues := w.cues, batch := w.batch, routes := w.routes, ports := w.ports, freeze := w.freeze
    lastClipped := w.lastClipped
    flags := { v.flags with
      stepTorn := w.flags.stepTorn, stepTimeout := w.flags.stepTimeout, freezeLate := w.flags.freezeLate
      resumeLate := w.flags.resumeLate, clipped := w.flags.clipped } }
  tag : w.batch.currentTag = v.batch.currentTag
  isOpen : w.batch.isOpen = v.batch.isOpen ∨ w.batch.isOpen = false
  ramp : v.freeze.state.TickTo w.freeze.state
  stepTorn : Raised v.flags.stepTorn w.flags.stepTorn
  stepTimeout : Raised v.flags.stepTimeout w.flags.stepTimeout
  freezeLate : Raised v.flags.freezeLate w.flags.freezeLate
  resumeLate : Raised v.flags.resumeLate w.flags.resumeLate
  clipped : Raised v.flags.clipped w.flags.clipped
  record : ∀ id, (w.route id).record = (v.route id).record ∧ (w.route id).armed = (v.route id).armed
  config : ∀ c, (w.cue c).config = (v.cue c).config

theorem State.TickRun.refl (v : State) : v.TickRun v where
  rest := rfl
  tag := rfl
  isOpen := .inl rfl
  ramp := .inl rfl
  stepTorn := .refl _
  stepTimeout := .refl _
  freezeLate := .refl _
  resumeLate := .refl _
  clipped := .refl _
  record _ := ⟨rfl, rfl⟩
  config _ := rfl

theorem State.TickRun.trans {u v w : State} (h : u.TickRun v) (k : v.TickRun w) : u.TickRun w where
  rest := by
    have hk := k.rest
    have hh := h.rest
    generalize w.cues = a, w.batch = b, w.routes = c, w.ports = d, w.freeze = e, w.lastClipped = f,
      w.flags.stepTorn = x1, w.flags.stepTimeout = x2, w.flags.freezeLate = x3, w.flags.resumeLate = x4,
      w.flags.clipped = x5 at hk ⊢
    rw [hk, hh]
  tag := k.tag.trans h.tag
  isOpen := by
    rcases k.isOpen with hk | hk
    · rw [hk]; exact h.isOpen
    · exact .inr hk
  ramp := h.ramp.trans k.ramp
  stepTorn := h.stepTorn.trans k.stepTorn
  stepTimeout := h.stepTimeout.trans k.stepTimeout
  freezeLate := h.freezeLate.trans k.freezeLate
  resumeLate := h.resumeLate.trans k.resumeLate
  clipped := h.clipped.trans k.clipped
  record id := ⟨(k.record id).1.trans (h.record id).1, (k.record id).2.trans (h.record id).2⟩
  config c := (k.config c).trans (h.config c)

theorem State.TickRun.setPort (v : State) (l : LinkId) (p : Port) : v.TickRun (v.setPort l p) :=
  { State.TickRun.refl v with rest := rfl }

theorem State.TickRun.endRamp {v : State} {g : FreezeControl} (h : v.freeze.RampTo g) :
    v.TickRun { v with freeze := g } :=
  { State.TickRun.refl v with
    rest := rfl
    ramp := h.state }

theorem State.TickRun.reevaluate (v : State) : v.TickRun v.reevaluate := by
  rw [State.reevaluate_eq]
  exact .endRamp v.reevaluate_ramp

theorem State.TickRun.abandonBatch (v : State) : v.TickRun v.abandonBatch :=
  { State.TickRun.refl v with
    rest := rfl
    isOpen := .inr rfl
    config := fun c => by rw [State.abandonBatch_cue] }

theorem State.TickRun.tearBatch (v : State) : v.TickRun v.tearBatch := by
  cases h : v.batch.isOpen with
  | true =>
    rw [v.tearBatch_open h]
    exact { State.TickRun.abandonBatch v with rest := rfl, stepTorn := .inr rfl }
  | false => rw [v.tearBatch_closed h]; exact .refl v

theorem State.TickRun.openSlot (v : State) (l : LinkId) (k : Fin 6) : v.TickRun (v.openSlot l k) := by
  have effect := v.openSlot_effect l k
  have ramp := v.openSlot_ramp l k
  have clipped := v.openSlot_clipped l k
  generalize v.openSlot l k = w at *
  have mid : v.TickRun { v with routes := w.routes, flags := { v.flags with clipped := w.flags.clipped },
                                lastClipped := w.lastClipped } :=
    { State.TickRun.refl v with
      rest := rfl
      clipped := clipped
      record := fun id => ⟨effect.record id, effect.armed id⟩ }
  have all := (mid.trans (.endRamp (g := w.freeze) ramp)).trans (.setPort _ l (w.port l))
  rwa [effect.eq]

theorem State.TickRun.enterRunning (v : State) (l : LinkId) : v.TickRun (v.enterRunning l) := by
  rcases v.enterRunning_cases l with ⟨p, h⟩ | ⟨k, h⟩
  · rw [h]; exact .setPort v l p
  · rw [h]; exact (State.TickRun.setPort v l _).trans (.openSlot _ l k)

theorem State.TickRun.tickPort (v : State) (l : LinkId) : v.TickRun (v.tickPort l) := by
  by_cases hs : (v.port l).Starts
  · rw [State.tickPort_starts hs]
    exact (State.TickRun.setPort v l _).trans (.enterRunning _ l)
  · by_cases hl : (v.port l).Leaves
    · rw [State.tickPort_leaves hl]
      refine State.TickRun.trans (State.TickRun.trans (v := if l = .d then v.tearBatch else v) ?_ (.setPort _ l _))
        (.reevaluate _)
      split
      · exact .tearBatch v
      · exact .refl v
    · obtain ⟨p, hp⟩ := State.tickPort_quiet hs hl
      rw [hp]
      exact .setPort v l p

/-! ### The batch timer -/

theorem State.tickBatch_closed {v : State} (h : v.batch.isOpen = false) : v.tickBatch = v := by
  rw [State.tickBatch, h]
  exact if_neg Bool.false_ne_true

theorem State.tickBatch_open {v : State} (h : v.batch.isOpen = true) : v.tickBatch =
    ({ v with batch := { v.batch with timer := v.batch.timer.map (· + 1) } } : State).testBatchWindow := by
  rw [State.tickBatch, if_pos h]

theorem State.tickBatch_counts {v : State} {n : Nat} (h : v.batch.isOpen = true) (ht : v.batch.timer = some n)
    (hw : n + 1 < v.globals.batchWindow.toNat) :
    v.tickBatch = { v with batch := { v.batch with timer := some (n + 1) } } := by
  rw [State.tickBatch_open h, ht]
  refine State.testBatchWindow_stands (.inr fun m hm => ?_)
  rw [← Option.some.inj hm]
  exact hw

theorem State.tickBatch_expires {v : State} {n : Nat} (h : v.batch.isOpen = true) (ht : v.batch.timer = some n)
    (hw : v.globals.batchWindow.toNat ≤ n + 1) :
    v.tickBatch = v.timeOutBatch := by
  rw [State.tickBatch_open h, ht]
  exact State.testBatchWindow_expires (n := n + 1) h rfl hw

theorem State.tickBatch_stopped {v : State} (h : v.batch.isOpen = true) (ht : v.batch.timer = none) : v.tickBatch = v := by
  rw [State.tickBatch_open h, ht]
  refine (State.testBatchWindow_stands (.inr fun m hm => by cases hm)).trans ?_
  rw [Option.map_none, ← ht]

theorem State.TickRun.tickBatch (v : State) : v.TickRun v.tickBatch := by
  cases h : v.batch.isOpen with
  | false => rw [State.tickBatch_closed h]; exact .refl v
  | true =>
    cases ht : v.batch.timer with
    | none => rw [State.tickBatch_stopped h ht]; exact .refl v
    | some n =>
      rcases Nat.lt_or_ge (n + 1) v.globals.batchWindow.toNat with hw | hw
      · rw [State.tickBatch_counts h ht hw]
        exact { State.TickRun.refl v with rest := rfl }
      · rw [State.tickBatch_expires h ht hw]
        exact { State.TickRun.abandonBatch v with rest := rfl, stepTimeout := .inr rfl }

/-! ### The window timer -/

theorem State.tickWindow_at_rest {v : State} (h : v.freeze.state = .run ∨ v.freeze.state = .frozen) :
    v.tickWindow = v := by
  unfold State.tickWindow
  rcases h with h | h <;> simp only [h]

theorem State.tickWindow_freezing {v : State} (h : v.freeze.state = .freezing) : v.tickWindow =
    ({ v with freeze := { v.freeze with timer := v.freeze.timer.map (· + 1) } } : State).testFreezeWindow := by
  unfold State.tickWindow
  simp only [h]

theorem State.tickWindow_resuming {v : State} (h : v.freeze.state = .resuming) : v.tickWindow =
    ({ v with freeze := { v.freeze with timer := v.freeze.timer.map (· + 1) } } : State).testResumeWindow := by
  unfold State.tickWindow
  simp only [h]

theorem State.tickWindow_freezing_counts {v : State} {n : Nat} (h : v.freeze = { state := .freezing, timer := some n })
    (hw : n + 1 < v.globals.freezeWindow.toNat) :
    v.tickWindow = { v with freeze := { state := .freezing, timer := some (n + 1) } } := by
  rw [State.tickWindow_freezing (by rw [h]), h]
  refine State.testFreezeWindow_stands (.inr fun m hm => ?_)
  rw [← Option.some.inj hm]
  exact hw

theorem State.tickWindow_freezing_expires {v : State} {n : Nat} (h : v.freeze = { state := .freezing, timer := some n })
    (hw : v.globals.freezeWindow.toNat ≤ n + 1) : v.tickWindow = v.expireFreeze := by
  rw [State.tickWindow_freezing (by rw [h]), h]
  exact State.testFreezeWindow_expires (n := n + 1) rfl hw

theorem State.tickWindow_resuming_counts {v : State} {n : Nat} (h : v.freeze = { state := .resuming, timer := some n })
    (hw : n + 1 < v.globals.resumeWindow.toNat) :
    v.tickWindow = { v with freeze := { state := .resuming, timer := some (n + 1) } } := by
  rw [State.tickWindow_resuming (by rw [h]), h]
  refine State.testResumeWindow_stands (.inr fun m hm => ?_)
  rw [← Option.some.inj hm]
  exact hw

theorem State.tickWindow_resuming_expires {v : State} {n : Nat} (h : v.freeze = { state := .resuming, timer := some n })
    (hw : v.globals.resumeWindow.toNat ≤ n + 1) : v.tickWindow = v.expireResume := by
  rw [State.tickWindow_resuming (by rw [h]), h]
  exact State.testResumeWindow_expires (n := n + 1) rfl hw

/-- The window timer's part changes the freeze controller and its two flags alone. -/
theorem State.tickWindow_cases (v : State) : ∃ f a b, v.tickWindow = { v with
    freeze := f, flags := { v.flags with freezeLate := a, resumeLate := b } }
      ∧ Raised v.flags.freezeLate a ∧ Raised v.flags.resumeLate b ∧ v.freeze.state.TickTo f.state := by
  cases h : v.freeze.state with
  | run => exact ⟨v.freeze, _, _, State.tickWindow_at_rest (.inl h), .refl _, .refl _, .inl h⟩
  | frozen => exact ⟨v.freeze, _, _, State.tickWindow_at_rest (.inr h), .refl _, .refl _, .inl h⟩
  | freezing =>
    rw [State.tickWindow_freezing h]
    unfold State.testFreezeWindow
    split
    · split
      · exact ⟨{ state := .frozen, timer := none }, true, v.flags.resumeLate, rfl, .inr rfl, .refl _, .inr (.inl ⟨rfl, rfl⟩)⟩
      · exact ⟨_, v.flags.freezeLate, v.flags.resumeLate, rfl, .refl _, .refl _, .inl h⟩
    · exact ⟨_, v.flags.freezeLate, v.flags.resumeLate, rfl, .refl _, .refl _, .inl h⟩
  | resuming =>
    rw [State.tickWindow_resuming h]
    unfold State.testResumeWindow
    split
    · split
      · exact ⟨{ state := .run, timer := none }, v.flags.freezeLate, true, rfl, .refl _, .inr rfl, .inr (.inr ⟨rfl, rfl⟩)⟩
      · exact ⟨_, v.flags.freezeLate, v.flags.resumeLate, rfl, .refl _, .refl _, .inl h⟩
    · exact ⟨_, v.flags.freezeLate, v.flags.resumeLate, rfl, .refl _, .refl _, .inl h⟩

theorem State.TickRun.tickWindow (v : State) : v.TickRun v.tickWindow := by
  obtain ⟨f, a, b, h, ha, hb, hf⟩ := v.tickWindow_cases
  rw [h]
  exact { State.TickRun.refl v with rest := rfl, ramp := hf, freezeLate := ha, resumeLate := hb }

theorem State.TickRun.tickPart (v : State) (part : TickPart) : v.TickRun (v.tickPart part) := by
  cases part with
  | cues =>
    exact { State.TickRun.refl v with
      rest := rfl
      config := fun c => by
        rw [State.tickPart, State.mapCues_cue, CueEntry.tick_config] }
  | batchTimer => exact .tickBatch v
  | windowTimer => exact .tickWindow v
  | port l => exact .tickPort v l

theorem State.TickRun.tickParts (v : State) (parts : List TickPart) : v.TickRun (v.tickParts parts) := by
  induction parts generalizing v with
  | nil => exact .refl v
  | cons part rest ih => exact (State.TickRun.tickPart v part).trans (ih _)

end Sys2Proof.Machine

/-! PROOFS. What the parts of a millisecond tick leave of the routes, the clip record, the batch and the ramp; and what
any slot open may do to a held value (R36, R53, R108, R113, R123). -/

namespace Sys2Proof.Machine

/-! ### Routes and the clip record -/

theorem State.tickPart_routes (v : State) {part : TickPart} (h : ∀ l, part ≠ .port l) :
    (v.tickPart part).routes = v.routes ∧ (v.tickPart part).flags.clipped = v.flags.clipped
      ∧ (v.tickPart part).lastClipped = v.lastClipped := by
  cases part with
  | cues => exact ⟨rfl, rfl, rfl⟩
  | batchTimer =>
    show v.tickBatch.routes = _ ∧ v.tickBatch.flags.clipped = _ ∧ v.tickBatch.lastClipped = _
    unfold State.tickBatch State.testBatchWindow
    split
    · split
      · split <;> exact ⟨rfl, rfl, rfl⟩
      · exact ⟨rfl, rfl, rfl⟩
    · exact ⟨rfl, rfl, rfl⟩
  | windowTimer =>
    obtain ⟨f, a, b, hw, -⟩ := v.tickWindow_cases
    rw [State.tickPart, hw]
    exact ⟨rfl, rfl, rfl⟩
  | port l => exact absurd rfl (h l)

/-- A link that does not start up leaves every route and the clip record. -/
theorem State.tickPort_routes (v : State) {l : LinkId} (h : ¬ (v.port l).Starts) :
    (v.tickPort l).routes = v.routes ∧ (v.tickPort l).flags.clipped = v.flags.clipped
      ∧ (v.tickPort l).lastClipped = v.lastClipped := by
  by_cases hl : (v.port l).Leaves
  · rw [State.tickPort_leaves hl, State.reevaluate_eq]
    split
    · rw [State.tearBatch_eq]
      exact ⟨rfl, rfl, rfl⟩
    · exact ⟨rfl, rfl, rfl⟩
  · obtain ⟨p, hp⟩ := State.tickPort_quiet h hl
    rw [hp]
    exact ⟨rfl, rfl, rfl⟩

theorem State.route_of_routes {v w : State} (h : w.routes = v.routes) (id : RouteId) : w.route id = v.route id := by
  simp only [State.route, h]

/-- Only the start-up of its own link touches a FIELD route in a tick, and nothing touches another (R59, R122). -/
theorem State.tickPart_route (v : State) (part : TickPart) {id : RouteId}
    (h : (v.route id).record.kind ≠ .field ∨ part ≠ .port (v.route id).record.link
      ∨ ¬ (v.port (v.route id).record.link).Starts) : (v.tickPart part).route id = v.route id := by
  by_cases hp : ∃ l, part = .port l ∧ (v.port l).Starts
  · obtain ⟨l, rfl, hs⟩ := hp
    rw [State.tickPart, State.tickPort_starts hs]
    refine State.enterRunning_route_other (v.setPort l _) l ?_
    rintro ⟨hk, hl⟩
    rw [State.setPort_route] at hk hl
    rcases h with h | h | h
    · exact h hk
    · exact h (congrArg _ hl.symm)
    · exact h (hl ▸ hs)
  · cases part with
    | cues => rfl
    | batchTimer => exact State.route_of_routes (v.tickPart_routes fun l hl => by cases hl).1 id
    | windowTimer => exact State.route_of_routes (v.tickPart_routes fun l hl => by cases hl).1 id
    | port l => exact State.route_of_routes (v.tickPort_routes fun hs => hp ⟨l, rfl, hs⟩).1 id

/-- A run of parts without the link of a route leaves the route. -/
theorem State.tickParts_route_other {parts : List TickPart} {id : RouteId} (v : State)
    (h : .port (v.route id).record.link ∉ parts) : (v.tickParts parts).route id = v.route id := by
  induction parts generalizing v with
  | nil => rfl
  | cons part rest ih =>
    obtain ⟨hp, hr⟩ := not_or.mp (mt List.mem_cons.mpr h)
    have same : (v.tickPart part).route id = v.route id := v.tickPart_route part (.inr (.inl (Ne.symm hp)))
    rw [State.tickParts_cons, ih _ (by rwa [same]), same]

/-- A route in a tick: as it was, or computed at its link's own start-up, in a state that holds the route, its cues'
configurations and its record as they were (R53, R122). -/
theorem State.tick_route {s : State} (hs : s.FieldPositionsLawful) (order : List TickPart) (id : RouteId) :
    ∃ u : State, u.route id = s.route id ∧ (∀ c, (u.cue c).config = (s.cue c).config)
      ∧ ((s.startTick.tickParts (tickSequence order)).route id = u.route id
        ∨ (s.startTick.tickParts (tickSequence order)).route id = u.computed id) := by
  obtain ⟨before, after, hseq, hn⟩ := tickSequence_split_at order (.port (s.route id).record.link)
  have hnot := (List.nodup_cons.mp (List.nodup_middle.mp hn)).1
  have hu : (s.startTick.tickParts before).route id = s.route id :=
    State.tickParts_route_other s.startTick fun h => hnot (List.mem_append_left _ h)
  have lawful : (s.startTick.tickParts before).FieldPositionsLawful :=
    (s.startTick_evolves.trans (State.tickParts_evolves before _)).keeps (fun _ _ hc => hc.fieldPositions) hs
  have config := (State.TickRun.tickParts s.startTick before).config
  rw [hseq, State.tickParts_append, State.tickParts_cons]
  generalize s.startTick.tickParts before = u at hu lawful config ⊢
  refine ⟨u, hu, config, ?_⟩
  have last : ((u.tickPart (.port (s.route id).record.link)).tickParts after).route id =
      (u.tickPart (.port (s.route id).record.link)).route id := by
    refine State.tickParts_route_other _ fun h => hnot (List.mem_append_right _ ?_)
    rwa [((State.TickRun.tickPart u _).record id).1, hu] at h
  rw [last]
  by_cases hst : (u.port (s.route id).record.link).Starts
  · rw [State.tickPart, State.tickPort_starts hst]
    exact (State.enterRunning_computes (lawful.setPort (p := (u.port _).counted) rfl) _).of_same (u.setPort_same _ _) id
  · exact .inl (u.tickPart_route _ (.inr (.inr (by rwa [hu]))))

/-! ### Every way a slot opens -/

theorem State.ComputesOnce.of_exec {s t : State} (hs : s.FieldPositionsLawful) {l : LinkId} {k : Fin 6}
    (h : t = s.openSlot l k ∨ t = s.enterRunning l ∨ t = s.restartWalk l ∨ exec (.slotTimerExpiry l) s = .next t
      ∨ exec (.syncEdge l) s = .next t ∨ exec (.idleFillStartUp l) s = .next t) : s.ComputesOnce t := by
  have next {u : State} (hu : s.ComputesOnce u) (h : (.next u : Host.Outcome State Fault Refusal) = .next t) :
      s.ComputesOnce t := by
    cases h
    exact hu
  rcases h with rfl | rfl | rfl | h | h | h
  · exact State.openSlot_computes hs l k
  · exact State.enterRunning_computes hs l
  · exact State.restartWalk_computes hs l
  · by_cases hrun : (s.port l).state = .running
    · cases ht : (s.port l).slotTimer with
      | none =>
        rw [exec_slotTimerExpiry_stopped (.inr ht)] at h
        exact next (.of_eq fun _ => rfl) h
      | some n =>
        rw [exec_slotTimerExpiry_running hrun ht] at h
        refine next ?_ h
        have same (id : RouteId) : s.SameFor (s.reachTime n) id := ⟨rfl, fun _ => rfl, rfl⟩
        exact (State.openNext_computes (hs.of_eq (t := s.reachTime n) (fun _ => rfl) fun _ => rfl) l).of_same same
    · rw [exec_slotTimerExpiry_stopped (.inl hrun)] at h
      exact next (.of_eq fun _ => rfl) h
  · rw [exec_syncEdge] at h
    refine next ?_ h
    split
    · exact State.openNext_computes hs l
    · exact .of_eq fun _ => rfl
  · refine next (u := if (s.port l).state = .starting ∧ (s.port l).filled = true then s.enterRunning l else s) ?_ h
    split
    · exact State.enterRunning_computes hs l
    · exact .of_eq fun _ => rfl

/-- Settles O31: a slot open computes a route at most once, and one computation moves within its limit; in a tick the
one computation is at the link's start-up, under the slew or the freeze slew. -/
theorem slotOpensMoveRoutesWithinTheirLimit : Obligations.SlotOpensMoveRoutesWithinTheirLimit := by
  intro l k order s t id hb hpos hk ha r limit moved inRange
  obtain ⟨hbounded, hrange⟩ := hb id hk
  have hlimit : limit = slewLimit s.freeze.state r := by
    show _ = slewLimit s.freeze.state (s.route id).record
    cases h : s.freeze.state <;> simp [limit, r, h, slewLimit_eq]
  refine ⟨fun h => ?_, fun h => ?_⟩
  · obtain ⟨hrec, hin, hmove⟩ := State.computed_moves (State.ComputesOnce.of_exec hpos h id) ha hbounded (hrange ha)
    rw [Route.InRange, hrec] at hin
    refine ⟨⟨hrec, hin⟩, fun hn => ?_, fun hn hs => ?_⟩
    · rw [hlimit] at hn ⊢
      exact hmove hn
    · rw [hlimit] at hn
      exact (hmove hn).trans (hbounded.slewLimit_le _ hs)
  · rw [exec_millisecondTick] at h
    cases h
    obtain ⟨u, hu, hcfg, hcomp⟩ := State.tick_route hpos order id
    have hclass : u.sourceClass (u.route id).record = .analog := by
      rw [hu, State.sourceClass_eq, hcfg, ← State.sourceClass_eq]
      exact ha
    obtain ⟨hrec, hin, hmove⟩ := State.computed_moves hcomp hclass (by rwa [hu]) (by rw [hu]; exact hrange ha)
    rw [hu] at hrec hmove
    rw [Route.InRange, hrec] at hin
    refine ⟨⟨hrec, hin⟩, fun hf hs => ?_⟩
    refine (hmove ?_).trans (hbounded.slewLimit_le _ hs)
    rw [slewLimit_eq]
    split
    · exact hs
    · exact hf

end Sys2Proof.Machine

/-! PROOFS. What a millisecond tick does to the batch, the ramp and the links, whatever the order of its parts
(R36, R108, R122, R125, log entry 4). -/

namespace Sys2Proof.Machine

/-! ### The batch -/

/-- The batch unit, its two flags and every pending value stand. -/
structure State.BatchStands (v w : State) : Prop where
  batch : w.batch = v.batch
  stepTimeout : w.flags.stepTimeout = v.flags.stepTimeout
  stepTorn : w.flags.stepTorn = v.flags.stepTorn
  pending : ∀ c, (w.cue c).pending = (v.cue c).pending

theorem State.BatchStands.refl (v : State) : v.BatchStands v := ⟨rfl, rfl, rfl, fun _ => rfl⟩

theorem State.BatchStands.trans {u v w : State} (h : u.BatchStands v) (k : v.BatchStands w) : u.BatchStands w :=
  ⟨k.batch.trans h.batch, k.stepTimeout.trans h.stepTimeout, k.stepTorn.trans h.stepTorn,
    fun c => (k.pending c).trans (h.pending c)⟩

theorem State.BatchStands.setPort (v : State) (l : LinkId) (p : Port) : v.BatchStands (v.setPort l p) :=
  ⟨rfl, rfl, rfl, fun _ => rfl⟩

theorem State.BatchStands.reevaluate (v : State) : v.BatchStands v.reevaluate := by
  rw [State.reevaluate_eq]
  exact ⟨rfl, rfl, rfl, fun _ => rfl⟩

theorem State.BatchStands.enterRunning (v : State) (l : LinkId) : v.BatchStands (v.enterRunning l) := by
  rcases v.enterRunning_cases l with ⟨p, h⟩ | ⟨k, h⟩
  · rw [h]; exact .setPort v l p
  · rw [h]
    refine (State.BatchStands.setPort v l (v.port l).entered).trans ?_
    rw [(State.openSlot_effect _ l k).eq]
    exact ⟨rfl, rfl, rfl, fun _ => rfl⟩

theorem State.BatchStands.tickPort (v : State) {l : LinkId}
    (h : l = .d → v.batch.isOpen = true → ¬ (v.port l).Leaves) : v.BatchStands (v.tickPort l) := by
  by_cases hs : (v.port l).Starts
  · rw [State.tickPort_starts hs]
    exact (State.BatchStands.setPort v l _).trans (.enterRunning _ l)
  · by_cases hl : (v.port l).Leaves
    · have untorn : (if l = .d then v.tearBatch else v) = v := by
        split
        · next hd =>
          cases ho : v.batch.isOpen with
          | true => exact absurd hl (h hd ho)
          | false => exact v.tearBatch_closed ho
        · rfl
      rw [State.tickPort_leaves hl, untorn]
      exact (State.BatchStands.setPort v l _).trans (.reevaluate _)
    · obtain ⟨p, hp⟩ := State.tickPort_quiet hs hl
      rw [hp]
      exact .setPort v l p

/-- Only the batch timer's part, and Link D's where it leaves RUNNING, touch an open batch; none touches a closed one. -/
theorem State.BatchStands.tickPart (v : State) {part : TickPart}
    (h : v.batch.isOpen = true → part ≠ .batchTimer ∧ (part = .port .d → ¬ (v.port .d).Leaves)) :
    v.BatchStands (v.tickPart part) := by
  cases part with
  | cues =>
    refine ⟨rfl, rfl, rfl, fun c => ?_⟩
    rw [State.tickPart, State.mapCues_cue, CueEntry.tick_pending]
  | batchTimer =>
    cases ho : v.batch.isOpen with
    | true => exact absurd rfl (h ho).1
    | false => rw [State.tickPart, State.tickBatch_closed ho]; exact .refl v
  | windowTimer =>
    obtain ⟨f, a, b, hw, -⟩ := v.tickWindow_cases
    rw [State.tickPart, hw]
    exact ⟨rfl, rfl, rfl, fun _ => rfl⟩
  | port l => exact .tickPort v fun hl ho => hl ▸ (h ho).2 (congrArg _ hl)

theorem State.BatchStands.tickParts {parts : List TickPart} (hn : parts.Nodup) (v : State)
    (h : v.batch.isOpen = true → .batchTimer ∉ parts ∧ (.port .d ∈ parts → ¬ (v.port .d).Leaves)) :
    v.BatchStands (v.tickParts parts) := by
  cases ho : v.batch.isOpen with
  | false =>
    refine State.tickParts_rel (R := fun u w => u.batch.isOpen = false → u.BatchStands w) (fun u _ => .refl u)
      (fun hu hw hc => (hu hc).trans (hw ((congrArg _ (hu hc).batch).trans hc))) hn v (fun x _ u _ hc => ?_) ho
    exact .tickPart u fun hc' => by rw [hc] at hc'; cases hc'
  | true =>
    obtain ⟨hb, hd⟩ := h ho
    refine State.tickParts_rel (R := State.BatchStands) .refl .trans hn v fun x hx u hu => ?_
    refine .tickPart u fun _ => ⟨fun e => hb (e ▸ hx), fun e => ?_⟩
    rw [hu .d e]
    exact hd (e ▸ hx)

/-- An open batch after its timer's part of a tick (R36). -/
structure State.BatchTicked (v w : State) (n : Nat) : Prop where
  counts : n + 1 < v.globals.batchWindow.toNat → w.batch = { v.batch with timer := some (n + 1) }
    ∧ w.flags.stepTimeout = v.flags.stepTimeout ∧ w.flags.stepTorn = v.flags.stepTorn
    ∧ ∀ c, (w.cue c).pending = (v.cue c).pending
  expires : v.globals.batchWindow.toNat ≤ n + 1 → w.batch = { v.batch with isOpen := false, timer := none }
    ∧ w.flags.stepTimeout = true ∧ w.flags.stepTorn = v.flags.stepTorn ∧ ∀ c, (w.cue c).pending = none

theorem State.BatchTicked.tickBatch {v : State} {n : Nat} (ho : v.batch.isOpen = true) (ht : v.batch.timer = some n) :
    v.BatchTicked v.tickBatch n where
  counts hw := by
    rw [State.tickBatch_counts ho ht hw]
    exact ⟨rfl, rfl, rfl, fun _ => rfl⟩
  expires hw := by
    rw [State.tickBatch_expires ho ht hw]
    exact ⟨rfl, rfl, rfl, fun c => congrArg CueEntry.pending (v.abandonBatch_cue c)⟩

/-- A run of parts with the batch timer's, in which Link D does not leave RUNNING. -/
theorem State.BatchTicked.tickParts {parts : List TickPart} (hn : parts.Nodup) (hb : .batchTimer ∈ parts) {v : State}
    {n : Nat} (ho : v.batch.isOpen = true) (ht : v.batch.timer = some n)
    (hd : .port .d ∈ parts → ¬ (v.port .d).Leaves) : v.BatchTicked (v.tickParts parts) n := by
  obtain ⟨before, after, rfl⟩ := List.append_of_mem hb
  obtain ⟨hnot, hnd⟩ := List.nodup_cons.mp (List.nodup_middle.mp hn)
  obtain ⟨hnb, hna, -⟩ := List.nodup_append.mp hnd
  have pre : v.BatchStands (v.tickParts before) := .tickParts hnb v fun _ =>
    ⟨fun h => hnot (List.mem_append_left _ h), fun h => hd (List.mem_append_left _ h)⟩
  have globals : (v.tickParts before).globals = v.globals := by rw [(State.TickRun.tickParts v before).rest]
  have hport : .port .d ∈ after → (v.tickParts before).port .d = v.port .d := fun h =>
    State.tickParts_port_other (fun h' => (List.nodup_append.mp hnd).2.2 _ h' _ h rfl) v
  rw [State.tickParts_append, State.tickParts_cons]
  generalize v.tickParts before = u at pre globals hport ⊢
  have ticked : u.BatchTicked u.tickBatch n := .tickBatch (by rw [pre.batch, ho]) (by rw [pre.batch, ht])
  have post : u.tickBatch.BatchStands (u.tickBatch.tickParts after) := .tickParts hna _ fun _ =>
    ⟨fun h => hnot (List.mem_append_right _ h), fun h => by
      rw [State.tickBatch_port, hport h]
      exact hd (List.mem_append_right _ (List.mem_cons_of_mem _ h))⟩
  show v.BatchTicked (u.tickBatch.tickParts after) n
  constructor
  · intro hw
    obtain ⟨h1, h2, h3, h4⟩ := ticked.counts (by rwa [globals])
    exact ⟨post.batch.trans (h1.trans (by rw [pre.batch])), post.stepTimeout.trans (h2.trans pre.stepTimeout),
      post.stepTorn.trans (h3.trans pre.stepTorn), fun c => (post.pending c).trans ((h4 c).trans (pre.pending c))⟩
  · intro hw
    obtain ⟨h1, h2, h3, h4⟩ := ticked.expires (by rwa [globals])
    exact ⟨post.batch.trans (h1.trans (by rw [pre.batch])), post.stepTimeout.trans h2,
      post.stepTorn.trans (h3.trans pre.stepTorn), fun c => (post.pending c).trans (h4 c)⟩

/-- Link D's part where it leaves RUNNING tears an open batch (R33, R123). -/
theorem State.tickPort_tears {v : State} (hl : (v.port .d).Leaves) (ho : v.batch.isOpen = true) :
    (v.tickPort .d).batch = { v.batch with isOpen := false, timer := none }
      ∧ (v.tickPort .d).flags.stepTimeout = v.flags.stepTimeout ∧ (v.tickPort .d).flags.stepTorn = true
      ∧ ∀ c, ((v.tickPort .d).cue c).pending = none := by
  rw [State.tickPort_leaves hl, if_pos rfl, v.tearBatch_open ho, State.reevaluate_eq]
  exact ⟨rfl, rfl, rfl, fun c => congrArg CueEntry.pending (v.abandonBatch_cue c)⟩

/-- A tick in which Link D leaves RUNNING ends an open batch, by the window or by the tear, whichever comes first. -/
theorem State.tick_batch_lost {seq : List TickPart} (hn : seq.Nodup) (hb : .batchTimer ∈ seq) (hd : .port .d ∈ seq)
    {v : State} {n : Nat} (ho : v.batch.isOpen = true) (htm : v.batch.timer = some n) (hl : (v.port .d).Leaves) :
    let t := v.tickParts seq
    t.batch = { v.batch with isOpen := false, timer := none } ∧ (∀ c, (t.cue c).pending = none)
      ∧ ((t.flags.stepTorn = true ∧ t.flags.stepTimeout = v.flags.stepTimeout)
        ∨ (t.flags.stepTorn = v.flags.stepTorn ∧ t.flags.stepTimeout = true ∧ v.globals.batchWindow.toNat ≤ n + 1)) := by
  intro t
  obtain ⟨before, after, rfl⟩ := List.append_of_mem hd
  obtain ⟨hnot, hnd⟩ := List.nodup_cons.mp (List.nodup_middle.mp hn)
  obtain ⟨hnb, hna, -⟩ := List.nodup_append.mp hnd
  have hport : (v.tickParts before).port .d = v.port .d :=
    State.tickParts_port_other (fun h => hnot (List.mem_append_left _ h)) v
  have hrun : t = ((v.tickParts before).tickPort .d).tickParts after := v.tickParts_append before _
  have closed {w : State} (hw : w.batch.isOpen = false) : w.BatchStands (w.tickParts after) :=
    .tickParts hna w fun h => by rw [hw] at h; cases h
  have lost : ((v.tickParts before).port .d).Leaves := by rwa [hport]
  rw [hrun]
  have torn {w : State} (hwl : (w.port .d).Leaves) (hwo : w.batch.isOpen = true)
      (hwb : ({ w.batch with isOpen := false, timer := none } : BatchUnit) = { v.batch with isOpen := false, timer := none })
      (hwt : w.flags.stepTimeout = v.flags.stepTimeout) :
      ((w.tickPort .d).tickParts after).batch = { v.batch with isOpen := false, timer := none }
        ∧ (∀ c, (((w.tickPort .d).tickParts after).cue c).pending = none)
        ∧ ((w.tickPort .d).tickParts after).flags.stepTorn = true
        ∧ ((w.tickPort .d).tickParts after).flags.stepTimeout = v.flags.stepTimeout := by
    obtain ⟨h1, h2, h3, h4⟩ := State.tickPort_tears hwl hwo
    have post := closed (w := w.tickPort .d) (by rw [h1])
    exact ⟨post.batch.trans (h1.trans hwb), fun c => (post.pending c).trans (h4 c), post.stepTorn.trans h3,
      post.stepTimeout.trans (h2.trans hwt)⟩
  by_cases hbefore : .batchTimer ∈ before
  · have pre : v.BatchTicked (v.tickParts before) n :=
      .tickParts hnb hbefore ho htm fun h => absurd (List.mem_append_left _ h) hnot
    rcases Nat.lt_or_ge (n + 1) v.globals.batchWindow.toNat with hw | hw
    · obtain ⟨h1, h2, -, -⟩ := pre.counts hw
      obtain ⟨g1, g2, g3, g4⟩ := torn lost (by rw [h1, ho]) (by rw [h1]) h2
      exact ⟨g1, g2, .inl ⟨g3, g4⟩⟩
    · obtain ⟨h1, h2, h3, h4⟩ := pre.expires hw
      have ended : (v.tickParts before).batch.isOpen = false := by rw [h1]
      have stands : (v.tickParts before).BatchStands ((v.tickParts before).tickPort .d) :=
        .tickPort _ fun _ h => by rw [ended] at h; cases h
      have post := stands.trans (closed (by rw [stands.batch, ended]))
      exact ⟨post.batch.trans h1, fun c => (post.pending c).trans (h4 c),
        .inr ⟨post.stepTorn.trans h3, post.stepTimeout.trans h2, hw⟩⟩
  · have pre : v.BatchStands (v.tickParts before) := .tickParts hnb v fun _ =>
      ⟨hbefore, fun h => absurd (List.mem_append_left _ h) hnot⟩
    obtain ⟨g1, g2, g3, g4⟩ := torn lost (by rw [pre.batch, ho]) (by rw [pre.batch]) pre.stepTimeout
    exact ⟨g1, g2, .inl ⟨g3, g4⟩⟩

/-! ### The ramp -/

/-- The freeze controller stands or its ramp has ended before its window, and its two flags stand. -/
structure State.RampRun (v w : State) : Prop where
  freeze : v.freeze.RampTo w.freeze
  freezeLate : w.flags.freezeLate = v.flags.freezeLate
  resumeLate : w.flags.resumeLate = v.flags.resumeLate

theorem State.RampRun.refl (v : State) : v.RampRun v := ⟨.refl _, rfl, rfl⟩

theorem State.RampRun.trans {u v w : State} (h : u.RampRun v) (k : v.RampRun w) : u.RampRun w :=
  ⟨h.freeze.trans k.freeze, k.freezeLate.trans h.freezeLate, k.resumeLate.trans h.resumeLate⟩

theorem State.RampRun.reevaluate {v w : State} (h : v.RampRun w) : v.RampRun w.reevaluate := by
  refine h.trans ⟨w.reevaluate_ramp, ?_, ?_⟩ <;> rw [State.reevaluate_eq]

theorem State.SlotEffect.flags_eq {l : LinkId} {s t : State} (h : s.SlotEffect l t) :
    t.flags = { s.flags with clipped := t.flags.clipped } := congrArg State.flags h.eq

theorem State.RampRun.enterRunning (v : State) (l : LinkId) : v.RampRun (v.enterRunning l) := by
  have late : (v.enterRunning l).flags.freezeLate = v.flags.freezeLate
      ∧ (v.enterRunning l).flags.resumeLate = v.flags.resumeLate := by
    rcases v.enterRunning_cases l with ⟨p, h⟩ | ⟨k, h⟩
    · rw [h]
      exact ⟨rfl, rfl⟩
    · rw [h, (State.openSlot_effect _ l k).flags_eq]
      exact ⟨rfl, rfl⟩
  exact ⟨v.enterRunning_ramp l, late.1, late.2⟩

theorem State.RampRun.tickPort (v : State) (l : LinkId) : v.RampRun (v.tickPort l) := by
  by_cases hs : (v.port l).Starts
  · rw [State.tickPort_starts hs]
    exact .trans (v := v.setPort l (v.port l).counted) ⟨.refl _, rfl, rfl⟩ (.enterRunning _ l)
  · by_cases hl : (v.port l).Leaves
    · rw [State.tickPort_leaves hl]
      refine .reevaluate ?_
      split
      · rw [State.tearBatch_eq]
        exact ⟨.refl _, rfl, rfl⟩
      · exact ⟨.refl _, rfl, rfl⟩
    · obtain ⟨p, hp⟩ := State.tickPort_quiet hs hl
      rw [hp]
      exact ⟨.refl _, rfl, rfl⟩

/-- Every part but the window timer's leaves the ramp to its re-evaluations. -/
theorem State.RampRun.tickPart (v : State) {part : TickPart} (h : part ≠ .windowTimer) :
    v.RampRun (v.tickPart part) := by
  cases part with
  | cues => exact ⟨.refl _, rfl, rfl⟩
  | batchTimer =>
    show v.RampRun v.tickBatch
    unfold State.tickBatch State.testBatchWindow
    split
    · split
      · split <;> exact ⟨.refl _, rfl, rfl⟩
      · exact ⟨.refl _, rfl, rfl⟩
    · exact .refl v
  | windowTimer => exact absurd rfl h
  | port l => exact .tickPort v l

theorem State.RampRun.tickParts {parts : List TickPart} (h : .windowTimer ∉ parts) (v : State) :
    v.RampRun (v.tickParts parts) := by
  induction parts generalizing v with
  | nil => exact .refl v
  | cons part rest ih =>
    obtain ⟨hp, hr⟩ := not_or.mp (mt List.mem_cons.mpr h)
    exact (State.RampRun.tickPart v (Ne.symm hp)).trans (ih hr _)

theorem FreezeControl.RampTo.at_rest {f g : FreezeControl} (h : f.RampTo g) (hf : f.state = .run ∨ f.state = .frozen) :
    g = f := by
  rcases h with h | ⟨hs, -⟩ | ⟨hs, -⟩
  · exact h
  · rw [hs] at hf; rcases hf with hf | hf <;> cases hf
  · rw [hs] at hf; rcases hf with hf | hf <;> cases hf

theorem FreezeControl.RampTo.freezing {f g : FreezeControl} (h : f.RampTo g) (hf : f.state = .freezing) :
    g = f ∨ g = { state := .frozen, timer := none } := by
  rcases h with h | ⟨-, h⟩ | ⟨hs, -⟩
  · exact .inl h
  · exact .inr h
  · rw [hf] at hs; cases hs

theorem FreezeControl.RampTo.resuming {f g : FreezeControl} (h : f.RampTo g) (hf : f.state = .resuming) :
    g = f ∨ g = { state := .run, timer := none } := by
  rcases h with h | ⟨hs, -⟩ | ⟨-, h⟩
  · exact .inl h
  · rw [hf] at hs; cases hs
  · exact .inr h

/-- With no link that starts up or leaves RUNNING, nothing has the ramp re-evaluated (R112). -/
theorem State.tickPart_ramp_stands (v : State) {part : TickPart} (h : part ≠ .windowTimer)
    (hq : ∀ l, part = .port l → ¬ (v.port l).Starts ∧ ¬ (v.port l).Leaves) : (v.tickPart part).freeze = v.freeze := by
  cases part with
  | cues => rfl
  | batchTimer =>
    show v.tickBatch.freeze = v.freeze
    unfold State.tickBatch State.testBatchWindow
    split
    · split
      · split <;> rfl
      · rfl
    · rfl
  | windowTimer => exact absurd rfl h
  | port l =>
    obtain ⟨hs, hl⟩ := hq l rfl
    obtain ⟨p, hp⟩ := State.tickPort_quiet hs hl
    rw [State.tickPart, hp]
    rfl

theorem State.tickParts_ramp_stands {parts : List TickPart} (hn : parts.Nodup) (h : .windowTimer ∉ parts) (v : State)
    (hq : ∀ l, .port l ∈ parts → ¬ (v.port l).Starts ∧ ¬ (v.port l).Leaves) : (v.tickParts parts).freeze = v.freeze :=
  State.tickParts_rel (R := fun u w => w.freeze = u.freeze) (fun _ => rfl) (fun hu hw => hw.trans hu) hn v
    fun x hx u hu => u.tickPart_ramp_stands (fun e => h (e ▸ hx)) fun l hl => by rw [hu l hl]; exact hq l (hl ▸ hx)

/-- The window timer's part stands between two runs of re-evaluations. -/
theorem State.tick_window_around {seq : List TickPart} (hn : seq.Nodup) (hw : .windowTimer ∈ seq) (v : State) :
    ∃ u : State, v.RampRun u ∧ u.globals = v.globals ∧ u.tickWindow.RampRun (v.tickParts seq)
      ∧ ((∀ l, ¬ (v.port l).Starts ∧ ¬ (v.port l).Leaves) →
          u.freeze = v.freeze ∧ (v.tickParts seq).freeze = u.tickWindow.freeze) := by
  obtain ⟨before, after, rfl⟩ := List.append_of_mem hw
  obtain ⟨hnot, hnd⟩ := List.nodup_cons.mp (List.nodup_middle.mp hn)
  obtain ⟨hnb, hna, hdisjoint⟩ := List.nodup_append.mp hnd
  have hb : .windowTimer ∉ before := fun h => hnot (List.mem_append_left _ h)
  have ha : .windowTimer ∉ after := fun h => hnot (List.mem_append_right _ h)
  rw [State.tickParts_append, State.tickParts_cons, State.tickPart]
  refine ⟨v.tickParts before, .tickParts hb v, by rw [(State.TickRun.tickParts v before).rest], .tickParts ha _, fun hq => ?_⟩
  refine ⟨State.tickParts_ramp_stands hnb hb v fun l _ => hq l, State.tickParts_ramp_stands hna ha _ fun l hl => ?_⟩
  rw [State.tickWindow_port, State.tickParts_port_other (fun hl' => hdisjoint _ hl' _ hl rfl)]
  exact hq l

/-- In RUN and FROZEN a tick leaves the freeze controller (R105). -/
theorem State.tick_ramp_at_rest {seq : List TickPart} (hn : seq.Nodup) (hw : .windowTimer ∈ seq) {v : State}
    (hf : v.freeze.state = .run ∨ v.freeze.state = .frozen) :
    (v.tickParts seq).freeze = v.freeze ∧ (v.tickParts seq).flags.freezeLate = v.flags.freezeLate
      ∧ (v.tickParts seq).flags.resumeLate = v.flags.resumeLate := by
  obtain ⟨u, pre, -, post, -⟩ := v.tick_window_around hn hw
  have hu : u.freeze = v.freeze := pre.freeze.at_rest hf
  rw [State.tickWindow_at_rest (by rwa [hu])] at post
  exact ⟨(post.freeze.at_rest (by rwa [hu])).trans hu, post.freezeLate.trans pre.freezeLate,
    post.resumeLate.trans pre.resumeLate⟩

/-- In FREEZING a tick counts the window timer, or ends the ramp by the window or by a re-evaluation (R108, R112). -/
theorem State.tick_ramp_freezing {seq : List TickPart} (hn : seq.Nodup) (hw : .windowTimer ∈ seq) {v : State} {n : Nat}
    (hf : v.freeze = { state := .freezing, timer := some n }) :
    let t := v.tickParts seq
    let quiet := ∀ l, ¬ (v.port l).Starts ∧ ¬ (v.port l).Leaves
    t.flags.resumeLate = v.flags.resumeLate
      ∧ (n + 1 < v.globals.freezeWindow.toNat → t.flags.freezeLate = v.flags.freezeLate
          ∧ (t.freeze = { state := .freezing, timer := some (n + 1) } ∨ t.freeze = { state := .frozen, timer := none })
          ∧ (quiet → t.freeze = { state := .freezing, timer := some (n + 1) }))
      ∧ (v.globals.freezeWindow.toNat ≤ n + 1 → t.freeze = { state := .frozen, timer := none }
          ∧ (t.flags.freezeLate = true ∨ t.flags.freezeLate = v.flags.freezeLate)
          ∧ (quiet → t.flags.freezeLate = true)) := by
  intro t quiet
  obtain ⟨u, pre, globals, post, stands⟩ := v.tick_window_around hn hw
  rw [← globals]
  rcases pre.freeze.freezing (by rw [hf]) with hu | hu
  · rw [hf] at hu
    rcases Nat.lt_or_ge (n + 1) u.globals.freezeWindow.toNat with hlt | hge
    · rw [State.tickWindow_freezing_counts hu hlt] at post stands
      exact ⟨post.resumeLate.trans pre.resumeLate,
        fun _ => ⟨post.freezeLate.trans pre.freezeLate, post.freeze.freezing rfl, fun hq => (stands hq).2⟩,
        fun hge => absurd hlt (Nat.not_lt.mpr hge)⟩
    · rw [State.tickWindow_freezing_expires hu hge] at post
      exact ⟨post.resumeLate.trans pre.resumeLate, fun hlt => absurd hlt (Nat.not_lt.mpr hge),
        fun _ => ⟨post.freeze.at_rest (.inr rfl), .inl post.freezeLate, fun _ => post.freezeLate⟩⟩
  · have moved : ¬ quiet := fun hq => by
      have h := (stands hq).1
      rw [hu, hf] at h
      cases h
    rw [State.tickWindow_at_rest (.inr (by rw [hu]))] at post
    have ht : t.freeze = { state := .frozen, timer := none } := (post.freeze.at_rest (.inr (by rw [hu]))).trans hu
    have late := post.freezeLate.trans pre.freezeLate
    exact ⟨post.resumeLate.trans pre.resumeLate, fun _ => ⟨late, .inr ht, fun hq => absurd hq moved⟩,
      fun _ => ⟨ht, .inr late, fun hq => absurd hq moved⟩⟩

/-- In RESUMING likewise (R108, R112). -/
theorem State.tick_ramp_resuming {seq : List TickPart} (hn : seq.Nodup) (hw : .windowTimer ∈ seq) {v : State} {n : Nat}
    (hf : v.freeze = { state := .resuming, timer := some n }) :
    let t := v.tickParts seq
    let quiet := ∀ l, ¬ (v.port l).Starts ∧ ¬ (v.port l).Leaves
    t.flags.freezeLate = v.flags.freezeLate
      ∧ (n + 1 < v.globals.resumeWindow.toNat → t.flags.resumeLate = v.flags.resumeLate
          ∧ (t.freeze = { state := .resuming, timer := some (n + 1) } ∨ t.freeze = { state := .run, timer := none })
          ∧ (quiet → t.freeze = { state := .resuming, timer := some (n + 1) }))
      ∧ (v.globals.resumeWindow.toNat ≤ n + 1 → t.freeze = { state := .run, timer := none }
          ∧ (t.flags.resumeLate = true ∨ t.flags.resumeLate = v.flags.resumeLate)
          ∧ (quiet → t.flags.resumeLate = true)) := by
  intro t quiet
  obtain ⟨u, pre, globals, post, stands⟩ := v.tick_window_around hn hw
  rw [← globals]
  rcases pre.freeze.resuming (by rw [hf]) with hu | hu
  · rw [hf] at hu
    rcases Nat.lt_or_ge (n + 1) u.globals.resumeWindow.toNat with hlt | hge
    · rw [State.tickWindow_resuming_counts hu hlt] at post stands
      exact ⟨post.freezeLate.trans pre.freezeLate,
        fun _ => ⟨post.resumeLate.trans pre.resumeLate, post.freeze.resuming rfl, fun hq => (stands hq).2⟩,
        fun hge => absurd hlt (Nat.not_lt.mpr hge)⟩
    · rw [State.tickWindow_resuming_expires hu hge] at post
      exact ⟨post.freezeLate.trans pre.freezeLate, fun hlt => absurd hlt (Nat.not_lt.mpr hge),
        fun _ => ⟨post.freeze.at_rest (.inl rfl), .inl post.resumeLate, fun _ => post.resumeLate⟩⟩
  · have moved : ¬ quiet := fun hq => by
      have h := (stands hq).1
      rw [hu, hf] at h
      cases h
    rw [State.tickWindow_at_rest (.inl (by rw [hu]))] at post
    have ht : t.freeze = { state := .run, timer := none } := (post.freeze.at_rest (.inl (by rw [hu]))).trans hu
    have late := post.resumeLate.trans pre.resumeLate
    exact ⟨post.freezeLate.trans pre.freezeLate, fun _ => ⟨late, .inr ht, fun hq => absurd hq moved⟩,
      fun _ => ⟨ht, .inr late, fun hq => absurd hq moved⟩⟩

end Sys2Proof.Machine

/-! PROOFS. The whole of a millisecond tick besides the ageing of the cues (chapters 2, 5, 6 and 7; log entry 4). -/

namespace Sys2Proof.Machine

/-! ### The state before the first slot of a start-up -/

theorem State.KeepsCues.but_pending {s t : State} (h : s.KeepsCues t) (c : CueId) :
    ({ t.cue c with pending := none } : CueEntry) = { s.cue c with pending := none } := by
  rcases h c with hc | hc <;> rw [hc]
  rfl

theorem State.TickRun.flags_eq {v w : State} (h : v.TickRun w) : w.flags = { v.flags with
    stepTorn := w.flags.stepTorn, stepTimeout := w.flags.stepTimeout, freezeLate := w.flags.freezeLate
    resumeLate := w.flags.resumeLate, clipped := w.flags.clipped } := congrArg State.flags h.rest

/-- Where a link's part stands in a tick, all else is as before the tick or as after it. -/
theorem State.inTickBeforeSlot (s : State) {before after : List TickPart} {l : LinkId}
    (hn : (before ++ .port l :: after).Nodup) (p : Port) :
    s.InTickBeforeSlot ((s.startTick.tickParts before).setPort l p)
      (s.startTick.tickParts (before ++ .port l :: after)) l := by
  obtain ⟨hnot, hnd⟩ := List.nodup_cons.mp (List.nodup_middle.mp hn)
  have hdisjoint := (List.nodup_append.mp hn).2.2
  have hlb : .port l ∉ before := fun h => hnot (List.mem_append_left _ h)
  have pre : s.startTick.TickRun ((s.startTick.tickParts before).setPort l p) :=
    (State.TickRun.tickParts _ before).trans (.setPort _ l p)
  have post : (s.startTick.tickParts before).TickRun (s.startTick.tickParts (before ++ .port l :: after)) := by
    rw [State.tickParts_append]
    exact .tickParts _ _
  have flags := pre.flags_eq
  refine ⟨pre.rest.trans (by rw [← flags]; rfl), ?_, fun k hk => ?_, fun id hid => ?_, pre.tag, ?_,
    pre.ramp.between post.ramp, pre.stepTorn.between post.stepTorn, pre.stepTimeout.between post.stepTimeout,
    pre.freezeLate.between post.freezeLate, pre.resumeLate.between post.resumeLate,
    .inl (by rw [flags]; rfl), .inl (by rw [flags]; rfl),
    pre.clipped.between post.clipped⟩
  · by_cases hc : .cues ∈ before
    · have keeps : (s.startTick.tickParts before).KeepsCues (s.startTick.tickParts (before ++ .port l :: after)) := by
        rw [State.tickParts_append]
        exact State.tickParts_keepCues (fun h => hdisjoint _ hc _ h rfl) _
      exact .inr fun c => (keeps.but_pending c).symm
    · exact .inl fun c => (State.tickParts_keepCues hc s.startTick).but_pending c
  · rw [State.setPort_port, if_neg hk]
    by_cases hkb : .port k ∈ before
    · rw [State.tickParts_append, State.tickParts_port_other fun h => hdisjoint _ hkb _ h rfl]
      exact .inr rfl
    · exact .inl (State.tickParts_port_other hkb s.startTick)
  · exact State.tickParts_route_other s.startTick (by rwa [show (s.startTick.route id).record.link = l from hid])
  · rcases pre.isOpen with h | h
    · exact .inl h
    · refine .inr (h.trans ?_)
      rcases post.isOpen with h' | h'
      · exact (h'.trans h).symm
      · exact h'.symm

/-! ### One link in a tick -/

/-- A link after a tick is the link after its own part. -/
theorem State.tick_link (order : List TickPart) (s : State) (l : LinkId) :
    ∃ u : State, u.port l = s.port l ∧ (s.startTick.tickParts (tickSequence order)).port l = (u.tickPort l).port l := by
  obtain ⟨before, after, hseq, hn⟩ := tickSequence_split_at order (.port l)
  have hnot := (List.nodup_cons.mp (List.nodup_middle.mp hn)).1
  refine ⟨s.startTick.tickParts before, State.tickParts_port_other (fun h => hnot (List.mem_append_left _ h)) _, ?_⟩
  rw [hseq, State.tickParts_append, State.tickParts_cons,
    State.tickParts_port_other fun h => hnot (List.mem_append_right _ h)]
  rfl

/-- A link whose part of the tick changes it alone. -/
theorem State.tick_link_eq {order : List TickPart} {s : State} {l : LinkId} (f : Port → Port)
    (h : ∀ u : State, u.port l = s.port l → (u.tickPort l).port l = f (u.port l)) :
    (s.startTick.tickParts (tickSequence order)).port l = f (s.port l) := by
  obtain ⟨u, hu, ht⟩ := s.tick_link order l
  rw [ht, h u hu, hu]

theorem State.port_of_eq_setPort {v w : State} {l : LinkId} {p : Port} (h : w = v.setPort l p) : w.port l = p := by
  rw [h, State.setPort_port_same]

/-- What a link that has just entered RUNNING keeps and clears, whether or not a slot has opened (R102, R123). -/
theorem State.enterRunning_keeps (v : State) (l : LinkId) :
    let q := (v.enterRunning l).port l
    q.state = .running ∧ q.receiveSeq = none ∧ q.silence = 0 ∧ q.heard = (v.port l).heard
      ∧ q.startTimer = (v.port l).startTimer ∧ q.settings = (v.port l).settings ∧ q.plan = (v.port l).plan
      ∧ q.templates = (v.port l).templates := by
  have entered : (v.setPort l (v.port l).entered).port l = (v.port l).entered := v.setPort_port_same l _
  rw [State.enterRunning_eq]
  split
  · have effect := (v.setPort l (v.port l).entered).openNext_effect l
    dsimp only
    rw [effect.state, effect.receiveSeq, effect.silence, effect.heard, effect.startTimer, effect.settings, effect.plan,
      effect.templates, entered]
    exact ⟨rfl, rfl, rfl, rfl, rfl, rfl, rfl, rfl⟩
  · dsimp only
    rw [entered]
    exact ⟨rfl, rfl, rfl, rfl, rfl, rfl, rfl, rfl⟩

/-- A start-up at a tick opens the first slot of the walk, in the state in which its part finds the tick (R102, R122). -/
theorem State.tick_opens (order : List TickPart) {s : State} {l : LinkId} {k : Fin 6} (hs : (s.port l).Starts)
    (ht : (s.port l).settings.trigger = .internal) (hk : FollowsInWalk (s.port l).counted.entered k) :
    let t := s.startTick.tickParts (tickSequence order)
    ∃ u : State, s.InTickBeforeSlot u t l ∧ u.now = s.startTick.now ∧ u.port l = (s.port l).counted.entered
      ∧ t.port l = (u.openSlot l k).port l
      ∧ ∀ id, (s.route id).record.link = l → t.route id = (u.openSlot l k).route id := by
  intro t
  obtain ⟨before, after, hseq, hn⟩ := tickSequence_split_at order (.port l)
  have hnot := (List.nodup_cons.mp (List.nodup_middle.mp hn)).1
  have hb : .port l ∉ before := fun h => hnot (List.mem_append_left _ h)
  have ha : .port l ∉ after := fun h => hnot (List.mem_append_right _ h)
  have inTick := s.inTickBeforeSlot hn (s.port l).counted.entered
  have hu : (s.startTick.tickParts before).port l = s.port l := State.tickParts_port_other hb s.startTick
  have run := State.TickRun.tickParts s.startTick before
  have whole : t = ((s.startTick.tickParts before).tickPort l).tickParts after := by
    rw [show t = s.startTick.tickParts (before ++ .port l :: after) from congrArg _ hseq, State.tickParts_append]
    rfl
  rw [← hseq] at inTick
  refine ⟨_, inTick, ?_, State.setPort_port_same _ _ _, ?_⟩
  · rw [State.setPort_now, run.rest]
  · have opens : (s.startTick.tickParts before).tickPort l =
        ((s.startTick.tickParts before).setPort l (s.port l).counted.entered).openSlot l k := by
      rw [State.tickPort_starts (by rwa [hu]), State.enterRunning_opens (by rwa [State.setPort_port_same, hu])
        (by rwa [State.setPort_port_same, hu]), State.setPort_port_same, State.setPort_setPort, hu]
    rw [whole, State.tickParts_port_other ha, opens]
    refine ⟨rfl, fun id hid => State.tickParts_route_other _ ?_⟩
    rw [((State.openSlot_effect _ l k).record id), State.setPort_route, (run.record id).1, State.startTick_route, hid]
    exact ha

/-- A link through its start-up at a tick, whether or not a slot opens (R122, R123). -/
theorem State.tick_starts (order : List TickPart) {s : State} {l : LinkId} (hs : (s.port l).Starts) :
    let q := (s.startTick.tickParts (tickSequence order)).port l
    q.state = .running ∧ q.receiveSeq = none ∧ q.silence = 0 ∧ q.heard = false
      ∧ q.startTimer = (s.port l).startTimer + 1 ∧ q.settings = (s.port l).settings ∧ q.plan = (s.port l).plan
      ∧ q.templates = (s.port l).templates := by
  obtain ⟨u, hu, ht⟩ := s.tick_link order l
  have keeps := (u.setPort l (u.port l).counted).enterRunning_keeps l
  rw [State.setPort_port_same, hu] at keeps
  dsimp only
  rw [ht, State.tickPort_starts (by rwa [hu]), hu]
  exact keeps

theorem State.tick_starts_without_slot (order : List TickPart) {s : State} {l : LinkId} (hs : (s.port l).Starts)
    (h : (s.port l).settings.trigger = .external ∨ ∀ k : Fin 6, (s.port l).plan[k.val].length = 0) :
    (s.startTick.tickParts (tickSequence order)).port l = (s.port l).counted.entered := by
  refine State.tick_link_eq (fun p => p.counted.entered) fun u hu => ?_
  rw [State.tickPort_starts (by rwa [hu]), State.enterRunning_without_slot (by rwa [State.setPort_port_same, hu]),
    State.setPort_port_same, State.setPort_port_same]

theorem State.tick_opens_timed (order : List TickPart) {s : State} {l : LinkId} {k : Fin 6} (hs : (s.port l).Starts)
    (ht : (s.port l).settings.trigger = .internal) (hk : FollowsInWalk (s.port l).counted.entered k) :
    let t := s.startTick.tickParts (tickSequence order)
    (t.port l).walk = some k
      ∧ (t.port l).slotTimer = some (s.startTick.now + 5 * (s.port l).plan[k.val].length.toNat)
      ∧ ∃ u : State, s.InTickBeforeSlot u t l ∧ u.port l = (s.port l).counted.entered
        ∧ t.port l = (u.openSlot l k).port l ∧ ∀ id, (s.route id).record.link = l → t.route id = (u.openSlot l k).route id := by
  obtain ⟨u, inTick, hnow, hport, hl, hroutes⟩ := State.tick_opens order hs ht hk
  obtain ⟨walk, timer⟩ := u.openSlot_sameSlot l k
  rw [← hl, hport] at walk timer
  refine ⟨walk, ?_, u, inTick, hport, hl, hroutes⟩
  rw [timer, hnow]
  exact if_pos ht

/-! ### Routes and the clip record -/

theorem State.tick_route_stands {seq : List TickPart} (hn : seq.Nodup) (s : State) {id : RouteId}
    (h : (s.route id).record.kind ≠ .field ∨ ¬ (s.port (s.route id).record.link).Starts) :
    (s.tickParts seq).route id = s.route id := by
  refine State.tickParts_rel (R := fun u w => u.route id = s.route id → w.route id = s.route id) (fun _ hu => hu)
    (fun hu hw hs => hw (hu hs)) hn s (fun x _ u hu hr => ?_) rfl
  refine (u.tickPart_route x ?_).trans hr
  rw [hr]
  rcases h with h | h
  · exact .inl h
  · by_cases hx : x = .port (s.route id).record.link
    · exact .inr (.inr (by rwa [hu _ hx]))
    · exact .inr (.inl hx)

theorem State.tick_clips {seq : List TickPart} (hn : seq.Nodup) (s : State) (h : ∀ l, ¬ (s.port l).Starts) :
    (s.tickParts seq).flags.clipped = s.flags.clipped ∧ (s.tickParts seq).lastClipped = s.lastClipped := by
  refine State.tickParts_rel (R := fun u w => w.flags.clipped = u.flags.clipped ∧ w.lastClipped = u.lastClipped)
    (fun _ => ⟨rfl, rfl⟩) (fun hu hw => ⟨hw.1.trans hu.1, hw.2.trans hu.2⟩) hn s fun x _ u hu => ?_
  cases x with
  | cues => exact ⟨rfl, rfl⟩
  | batchTimer => exact (u.tickPart_routes fun l hl => by cases hl).2
  | windowTimer => exact (u.tickPart_routes fun l hl => by cases hl).2
  | port l => exact (u.tickPort_routes (by rw [hu l rfl]; exact h l)).2

/-! ### The tick -/

/-- Settles O7: each part's own lemma, carried over the rest of the sequence by what the other parts leave. -/
theorem tickMovesTimersAndPorts : Obligations.TickMovesTimersAndPorts := by
  intro order s starts leaves atTick
  have hn : (tickSequence order).Nodup := nodup_eraseDups _
  have hbatch : .batchTimer ∈ tickSequence order := List.mem_eraseDups.mpr (List.mem_append_right order (by decide))
  have hwindow : .windowTimer ∈ tickSequence order := List.mem_eraseDups.mpr (List.mem_append_right order (by decide))
  have hd : .port .d ∈ tickSequence order := List.mem_eraseDups.mpr (List.mem_append_right order (by decide))
  have run := State.TickRun.tickParts s.startTick (tickSequence order)
  refine ⟨s.startTick.tickParts (tickSequence order), exec_millisecondTick order s, run.rest, run.record,
    fun id h => State.tick_route_stands hn s.startTick h, fun h => State.tick_clips hn s.startTick h, fun l => ?_,
    fun hc => ?_, fun n ho hl ht => ?_, fun n ho hl ht => ?_, fun n ho hl ht => State.tick_batch_lost hn hbatch hd ho ht hl,
    fun hf => State.tick_ramp_at_rest hn hwindow hf, fun n hf => State.tick_ramp_freezing hn hwindow hf,
    fun n hf => State.tick_ramp_resuming hn hwindow hf⟩
  · refine ⟨fun h => ?_, State.tick_starts order, State.tick_starts_without_slot order,
      fun k => State.tick_opens_timed order, fun h hs ht => ?_, fun h hs ht => ?_, fun h hz => ?_, fun h hp => ?_,
      fun h hp => ?_, fun h hr => ?_, fun h hl hh => ?_⟩
    · exact State.tick_link_eq id fun u hu => congrArg (State.port · l) (State.tickPort_off (by rwa [hu]))
    · exact State.tick_link_eq (fun p => { p.counted with idleRun := true }) fun u hu =>
        State.port_of_eq_setPort (State.tickPort_waits (by rwa [hu]) (by rwa [hu]) (by rwa [hu]))
    · exact State.tick_link_eq
        (fun p => { p.counted with state := .down, flags := { p.flags with startTimeout := true } }) fun u hu =>
        State.port_of_eq_setPort (State.tickPort_timesOut (by rwa [hu]) (by rwa [hu]) (by rwa [hu]))
    · exact State.tick_link_eq (fun p => { p with silence := 1, heard := false }) fun u hu =>
        State.port_of_eq_setPort (State.tickPort_silence (by rwa [hu]) (by rwa [hu]))
    · refine State.tick_link_eq Port.lost fun u hu => ?_
      rw [State.tickPort_leaves (by rw [hu]; exact ⟨h, hp⟩), State.reevaluate_port, State.setPort_port_same]
    · exact State.tick_link_eq (fun p => { p with
          state := .down, silence := p.silence + 1, heard := false, flags := { p.flags with signalLost := true } })
        fun u hu => State.port_of_eq_setPort (State.tickPort_halted (by rwa [hu]) (by rwa [hu]))
    · exact State.tick_link_eq (fun p => { p with heard := false }) fun u hu =>
        State.port_of_eq_setPort (State.tickPort_stays_down (by rwa [hu]) (by rwa [hu]))
    · exact State.tick_link_eq (fun p => { p with
          state := .starting, startTimer := 0, idleRun := false, fill := .absent, heard := false })
        fun u hu => State.port_of_eq_setPort (State.tickPort_returns (by rwa [hu]) hl (by rwa [hu]))
  · obtain ⟨h1, h2, h3, h4⟩ := State.BatchStands.tickParts hn s.startTick fun ho => by
      rw [State.startTick_batch, hc] at ho
      cases ho
    exact ⟨h1, h2, h3, h4⟩
  · exact (State.BatchTicked.tickParts hn hbatch (v := s.startTick) ho ht fun _ => hl).counts
  · exact (State.BatchTicked.tickParts hn hbatch (v := s.startTick) ho ht fun _ => hl).expires

end Sys2Proof.Machine
